-- ==== Sys2Proof/Word.lean ====
section
/-! DEFINITION. The data widths of FSYNC (`00_scope.md` R9, `10_state.md` R10): bytes, 16-bit and 32-bit fields, and the
nine-byte frame. There is no machine word wider than a field of a frame. -/

namespace Sys2Proof

/-- A byte of the input port and of the frame buffer (R9, R11). -/
abbrev Byte := BitVec 8

/-- A 16-bit field: `appId`, `value16`, the 16-bit registers of the Telemetry State (R49, R116). -/
abbrev Half := BitVec 16

/-- A 32-bit field: `value32` and the results of the coordinate accessors (R49, R135). -/
abbrev Word := BitVec 32

/-- The destuffed frame, and the buffer that collects it: nine bytes, index 0 received first (R11, R49). -/
abbrev Frame := Vector Byte 9

end Sys2Proof
end

