-- ==== Sys2Proof/Config.lean ====
section
/-! DEFINITION. What an implementation fixes: the protocol constants of `00_scope.md` R4 and the open parameters of R5.
The constants are literals of the spec. The parameters are plain data (`Params`), which the state carries so that every
statement about all states is a statement about all parameter values; `Params.default` holds the defaults of
`43_telemetry_annex.md` R117. -/

namespace Sys2Proof

namespace Config

/-- The start/stop delimiter byte (R4, R45). -/
def delim : Byte := 0x7E

/-- The escape marker byte (R4, R45). -/
def esc : Byte := 0x7D

/-- The value XORed into the byte that follows the escape marker (R4). -/
def stuffMask : Byte := 0x20

/-- The one `prim` value that is dispatched, DATA_FRAME (R4, R51). -/
def dataFrame : Byte := 0x10

/-- The required final value of the checksum accumulator (R4, R86). -/
def chkGood : Byte := 0xFF

/-- The character code of `'E'`, widened to the 16 bits it is compared at (R131; `93_implementation_defined.md` G3). -/
def charE : Half := 0x0045

/-- The character code of `'N'`, widened to the 16 bits it is compared at (R132; G3). -/
def charN : Half := 0x004E

end Config

/-- The altitude-source switch ALT_SRC, a static input (R5, R118). -/
inductive AltSrc where
  | vario
  | gps
  deriving DecidableEq, Repr

/-- Which conversion ALT32_CONV takes a 32-bit altitude to 16 bits (R5, R123): the spec's default, or the one an
implementation configures and the spec does not give. -/
inductive Alt32Conv where
  /-- `trunc_16`, whatever the altitude source: the default of R123. -/
  | lowHalf
  /-- The implementation's own function, `Config.alt32Conv`, of which nothing is known (D18, D21). -/
  | configured
  deriving DecidableEq, Repr

/-- DESIGN CHOICE (log entry 6): the conversion an implementation may configure instead of the default of R123. The spec
gives neither of its two bodies, so it has none here: a statement that holds for `Alt32Conv.configured` holds for
every function from the altitude source and the 32-bit value to the 16-bit altitude. -/
opaque Config.alt32Conv : AltSrc → Word → Half

/-- The open parameters of R5, all of the annex TLM. Fixed before reset is released (R118, R167 (c)); no step writes them. -/
structure Params where
  /-- RSSI_ID, class 1 (R121). -/
  rssiId : Half
  /-- SWR_ID, class 1 (R121). -/
  swrId : Half
  /-- ALT_FIRST_ID, class 3 (R123). -/
  altFirstId : Half
  /-- HUB_LAST_ID, "the last known legacy ID" (R122). -/
  hubLastId : Byte
  /-- BARO_ALT_AP_ID (R125). -/
  baroAltApId : Byte
  /-- GPS_ALT_AP_ID (R126). -/
  gpsAltApId : Byte
  /-- GPS_LONG_BP_ID (R127). -/
  gpsLongBpId : Byte
  /-- GPS_LONG_AP_ID (R128). -/
  gpsLongApId : Byte
  /-- GPS_LAT_BP_ID (R129). -/
  gpsLatBpId : Byte
  /-- GPS_LAT_AP_ID (R130). -/
  gpsLatApId : Byte
  /-- GPS_LONG_EW_ID (R131). -/
  gpsLongEwId : Byte
  /-- GPS_LAT_NS_ID (R132). -/
  gpsLatNsId : Byte
  /-- ALT_SRC (R118). -/
  altSrc : AltSrc
  /-- ALT32_CONV (R123). -/
  alt32 : Alt32Conv
  /-- AP_SCALE (R135). -/
  apScale : Nat
  deriving DecidableEq, Repr

/-- The defaults of R117, R123 and R135. The identifier values are PRESUMED by the spec itself (its G1: "from general
knowledge, not in source", log entry 5); the spec gives no default for ALT_SRC, and VARIO is a DESIGN CHOICE (log
entry 7). -/
def Params.default : Params where
  rssiId := 0xF101
  swrId := 0xF105
  altFirstId := 0x0100
  hubLastId := 0x3F
  baroAltApId := 0x21
  gpsAltApId := 0x09
  gpsLongBpId := 0x12
  gpsLongApId := 0x1A
  gpsLatBpId := 0x13
  gpsLatApId := 0x1B
  gpsLongEwId := 0x22
  gpsLatNsId := 0x23
  altSrc := .vario
  alt32 := .lowHalf
  apScale := 1

end Sys2Proof
end

