-- ==== Sys2Proof/Syntax.lean ====
section
/-! DEFINITION. The operations of FSYNC and of the annex TLM: one constructor of `Instr` per row of
`spec/opcode_table.json` (`30_encoding.md` R53, R58), with the operands its rule names. -/

namespace Sys2Proof

/-- The synchronizer's state `st` (R12). The fourth code of its two bits is no state (R55). -/
inductive SyncState where
  /-- Waiting for a delimiter. -/
  | idle
  /-- Accumulating bytes. -/
  | inFrame
  /-- An escape marker has been received. -/
  | escaped
  deriving DecidableEq, Repr

/-- The binary encoding of `st` (R12). -/
def SyncState.code : SyncState → BitVec 2
  | .idle => 0b00
  | .inFrame => 0b01
  | .escaped => 0b10

/-- The 36 rows of the operation table, in the table's order. A byte operation that takes more than one byte value carries
the wire byte; a frame operation carries the operands its rule names. -/
inductive Instr where
  /-- IDLE.DELIM (R66). -/
  | idleDelim
  /-- IDLE.OTHER (R67): `b` is the discarded byte. -/
  | idleOther (b : Byte)
  /-- IN_FRAME.DELIM (R68). -/
  | inFrameDelim
  /-- IN_FRAME.ESC (R69). -/
  | inFrameEsc
  /-- IN_FRAME.DATA (R70): `b` is stored unchanged. -/
  | inFrameData (b : Byte)
  /-- ESCAPED.DELIM (R71). -/
  | escapedDelim
  /-- ESCAPED.DATA (R72): `b` is the wire byte, stored XORed. -/
  | escapedData (b : Byte)
  /-- COMPLETE (R73). -/
  | complete
  /-- NOBYTE (R74). -/
  | noByte
  /-- RESET (R165). -/
  | reset
  /-- CHECK (R85, R86, R90). -/
  | check
  /-- PARSE.DATA_ID (R96). -/
  | parseDataId
  /-- PARSE.PRIM (R97). -/
  | parsePrim
  /-- PARSE.APP_ID (R98). -/
  | parseAppId
  /-- PARSE.VALUE16 (R99). -/
  | parseValue16
  /-- PARSE.VALUE32 (R100). -/
  | parseValue32
  /-- PARSE.TRAILER (R101). -/
  | parseTrailer
  /-- PARSE.IS_DATA_FRAME (R102). -/
  | parseIsDataFrame
  /-- PARSE.IS_LEGACY (R103), which drives `is_legacy` and `hub_id`. -/
  | parseIsLegacy
  /-- DISPATCH (R120), the group row of every DATA_FRAME. -/
  | dispatch (appId : Half) (value32 : Word)
  /-- CLASS1.RSSI (R121). -/
  | class1Rssi
  /-- CLASS1.SWR (R121). -/
  | class1Swr
  /-- CLASS2.HUB (R122), the group row of every legacy Hub value. -/
  | class2Hub (hubId : Byte) (value : Half)
  /-- HUB.ABOVE_LAST (R122). -/
  | hubAboveLast (hubId : Byte)
  /-- HUB.BARO_ALT_AP (R125). -/
  | hubBaroAltAp (value : Half)
  /-- HUB.GPS_ALT_AP (R126). -/
  | hubGpsAltAp (value : Half)
  /-- HUB.GPS_LONG_BP (R127). -/
  | hubGpsLongBp (value : Half)
  /-- HUB.GPS_LONG_AP (R128). -/
  | hubGpsLongAp (value : Half)
  /-- HUB.GPS_LAT_BP (R129). -/
  | hubGpsLatBp (value : Half)
  /-- HUB.GPS_LAT_AP (R130). -/
  | hubGpsLatAp (value : Half)
  /-- HUB.GPS_LONG_EW (R131). -/
  | hubGpsLongEw (value : Half)
  /-- HUB.GPS_LAT_NS (R132). -/
  | hubGpsLatNs (value : Half)
  /-- HUB.OTHER (R133). -/
  | hubOther (hubId : Byte)
  /-- CLASS3.ALT_FIRST (R123). -/
  | class3AltFirst (value32 : Word)
  /-- CLASS4.OTHER (R124). -/
  | class4Other (appId : Half)
  /-- FRAME.NOT_DATA (R120, the gate's first line). -/
  | frameNotData (prim : Byte)
  deriving DecidableEq, Repr

end Sys2Proof
end

