-- ==== Sys2Proof/Machine/Operands.lean ====
section
/-! DEFINITION. Field assembly (`30_encoding.md` R50; `20_memory.md` R31 to R33): how each operand is cut from a byte or from
the nine bytes of a frame, and the byte-order helpers it uses. Everything here is a function of the bytes alone. -/

namespace Sys2Proof.Machine

/-- The little-endian 16-bit value of two bytes, `lo + 256 * hi`: the byte received first is the less significant (R32). -/
def le16 (lo hi : Byte) : Half := BitVec.ofNat 16 (lo.toNat + 256 * hi.toNat)

/-- The little-endian 32-bit value of four bytes, `b0 + 2^8 * b1 + 2^16 * b2 + 2^24 * b3` (R33). -/
def le32 (b0 b1 b2 b3 : Byte) : Word :=
  BitVec.ofNat 32 (b0.toNat + 256 * b1.toNat + 65536 * b2.toNat + 16777216 * b3.toNat)

/-- `v[7:0]` of a 16-bit value (R9). -/
def lowByte (v : Half) : Byte := BitVec.ofNat 8 v.toNat

/-- `v[15:8]` of a 16-bit value (R9). -/
def highByte (v : Half) : Byte := BitVec.ofNat 8 (v.toNat / 256)

/-- `trunc_16` of a 32-bit value: its bits 15..0 (R9). -/
def lowHalf (v : Word) : Half := BitVec.ofNat 16 v.toNat

/-- Byte `i` of a 32-bit value, byte 0 the least significant. -/
def byteOf (v : Word) (i : Nat) : Byte := BitVec.ofNat 8 (v.toNat / 256 ^ i)

/-- The operand of ESCAPED.DATA: the wire byte with the stuff mask XORed in (R50, R72). -/
def destuffed (b : Byte) : Byte := b ^^^ Config.stuffMask

/-- `dataId` (R96). -/
def dataIdOf (f : Frame) : Byte := f[0]

/-- `prim`, the opcode of the frame (R97). -/
def primOf (f : Frame) : Byte := f[1]

/-- `appId` (R98). -/
def appIdOf (f : Frame) : Half := le16 f[2] f[3]

/-- `hubId`, the low byte of `appId` (R50, R103). -/
def hubIdOf (f : Frame) : Byte := f[2]

/-- `value16` (R99). -/
def value16Of (f : Frame) : Half := le16 f[4] f[5]

/-- `value32` (R100, in the byte order of R33). -/
def value32Of (f : Frame) : Word := le32 f[4] f[5] f[6] f[7]

/-- The trailer (R101). -/
def trailerOf (f : Frame) : Byte := f[8]

/-- The bytes CHK sums, in its order: indices 1 to 8 (R85, R87). -/
def summedBytes (f : Frame) : List Byte := [f[1], f[2], f[3], f[4], f[5], f[6], f[7], f[8]]

end Sys2Proof.Machine
end

