-- ==== Sys2Proof/Machine/Flags.lean ====
section
/-! DEFINITION. The flag computations: the checksum accumulator and its verdict (`41_checksum.md` R85, R86, R90) and the two
classifications of a frame (`42_parser.md` R102, R103). -/

namespace Sys2Proof.Machine

/-- One carry fold and mask: `acc + (acc >> 8)`, then the low eight bits (R85). -/
def foldCarry (acc : Nat) : Nat := (acc + (acc >>> 8)) &&& 0xFF

/-- One iteration of CHECK: add a byte, then the carry fold twice, as the source asks (R85; `90_conflicts.md` C1). -/
def chkAdd (acc : Nat) (x : Byte) : Nat := foldCarry (foldCarry (acc + x.toNat))

/-- The accumulator after a list of bytes, from the value `acc`. -/
def chkSum (acc : Nat) (bs : List Byte) : Nat := bs.foldl chkAdd acc

/-- `chk_acc`: the final accumulator over bytes 1 to 8, starting at 0 (R85, D12). -/
def chkAccOf (f : Frame) : Byte := BitVec.ofNat 8 (chkSum 0 (summedBytes f))

/-- `chk_ok` (R86). -/
def chkOkOf (f : Frame) : Bool := chkAccOf f == Config.chkGood

/-- `is_data_frame` (R102). -/
def isDataFrameOf (f : Frame) : Bool := primOf f == Config.dataFrame

/-- `is_legacy` (R103). -/
def isLegacyOf (f : Frame) : Bool := f[3] == 0

end Sys2Proof.Machine
end

