-- ==== Sys2Proof/WellFormed.lean ====
section
/-! DEFINITION. Which terms of `Instr` the encoding admits, and which parameter values the spec admits. A byte operation
carries only the byte values its row selects (`30_encoding.md` R53); a frame operation carries only operands that reach
its row under the given parameters (`43_telemetry_annex.md` R120 to R133). -/

namespace Sys2Proof

/-- The eight Hub identifiers, in the order of R125 to R132. -/
def Params.hubIds (p : Params) : List Byte :=
  [p.baroAltApId, p.gpsAltApId, p.gpsLongBpId, p.gpsLongApId,
   p.gpsLatBpId, p.gpsLatApId, p.gpsLongEwId, p.gpsLatNsId]

/-- The constraints R117 puts on the identifier parameters: the eight Hub identifiers are pairwise distinct and none is above
HUB_LAST_ID, and ALT_FIRST_ID has a non-zero high byte. -/
def Params.ok (p : Params) : Bool :=
  decide p.hubIds.Nodup && p.hubIds.all (fun i => decide (i ≤ p.hubLastId)) &&
    decide (Machine.highByte p.altFirstId ≠ 0)

/-- The test of class 1 (R120, R121). -/
def Params.isClass1 (p : Params) (appId : Half) : Bool := appId == p.rssiId || appId == p.swrId

/-- The `appId` of a legacy Hub frame: high byte zero (R122). -/
def hubAppId (hubId : Byte) : Half := Machine.le16 hubId 0

/-- A Hub row is reachable for `hubId` when class 1 does not take its `appId` first (R120). -/
def Params.hubReachable (p : Params) (hubId : Byte) : Bool := !p.isClass1 (hubAppId hubId)

/-- The well-formed terms: what each row's selection admits. -/
def Instr.wellFormed (p : Params) : Instr → Bool
  | .idleDelim => true
  | .idleOther b => b != Config.delim
  | .inFrameDelim => true
  | .inFrameEsc => true
  | .inFrameData b => b != Config.delim && b != Config.esc
  | .escapedDelim => true
  | .escapedData b => b != Config.delim
  | .complete => true
  | .noByte => true
  | .reset => true
  | .check => true
  | .parseDataId => true
  | .parsePrim => true
  | .parseAppId => true
  | .parseValue16 => true
  | .parseValue32 => true
  | .parseTrailer => true
  | .parseIsDataFrame => true
  | .parseIsLegacy => true
  | .dispatch _ _ => true
  | .class1Rssi => true
  | .class1Swr => p.swrId != p.rssiId
  | .class2Hub hubId _ => p.hubReachable hubId
  | .hubAboveLast hubId => p.hubReachable hubId && decide (p.hubLastId < hubId)
  | .hubBaroAltAp _ => p.hubReachable p.baroAltApId
  | .hubGpsAltAp _ => p.hubReachable p.gpsAltApId
  | .hubGpsLongBp _ => p.hubReachable p.gpsLongBpId
  | .hubGpsLongAp _ => p.hubReachable p.gpsLongApId
  | .hubGpsLatBp _ => p.hubReachable p.gpsLatBpId
  | .hubGpsLatAp _ => p.hubReachable p.gpsLatApId
  | .hubGpsLongEw _ => p.hubReachable p.gpsLongEwId
  | .hubGpsLatNs _ => p.hubReachable p.gpsLatNsId
  | .hubOther hubId => p.hubReachable hubId && decide (hubId ≤ p.hubLastId) && !p.hubIds.contains hubId
  | .class3AltFirst _ => !p.isClass1 p.altFirstId
  | .class4Other appId =>
    !p.isClass1 appId && Machine.highByte appId != 0 && appId != p.altFirstId
  | .frameNotData prim => prim != Config.dataFrame

end Sys2Proof
end

