-- ==== Sys2Proof/Decode.lean ====
section
/-! DEFINITION. The decoder and, after it, the encoder (`30_encoding.md` R45 to R58). What selects a row is a byte met in a
state (format BYTE), a destuffed frame (format FRAME) or an event (format EVENT); `Selector` is that, and decoding it is
total, because no input is illegal (R54). Only a list that is not nine bytes long is no frame, and is rejected by name. -/

namespace Sys2Proof

/-- The continuous rows: CHECK and the eight PARSE rows, evaluated on the buffer in every step (R85, R95). -/
inductive View where
  | check
  | dataId
  | prim
  | appId
  | value16
  | value32
  | trailer
  | isDataFrame
  | isLegacy
  deriving DecidableEq, Repr

/-- What selects a row of the operation table (R53, R58). -/
inductive Selector where
  /-- `rst = 1`. -/
  | rst
  /-- `rst = 0` and no byte. -/
  | noByte
  /-- A byte met in a state: format BYTE. -/
  | byte (st : SyncState) (b : Byte)
  /-- The ninth store. -/
  | ninthStore
  /-- A continuous function of the buffer. -/
  | view (v : View)
  /-- A frame at the gate: the `prim` test alone (the group row DISPATCH and the row FRAME.NOT_DATA). -/
  | gate (f : Frame)
  /-- A frame at its class: the `appId` tests (the group row CLASS2.HUB among them). -/
  | classed (f : Frame)
  /-- A frame, at the leaf row that it reaches: format FRAME. -/
  | frame (f : Frame)
  deriving DecidableEq, Repr

/-- The four classes of `appId` (R52, R120). -/
inductive AppClass where
  | rssi
  | swr
  | hub (hubId : Byte)
  | altFirst
  | other
  deriving DecidableEq, Repr

/-- The rows of class 2 (R122, R125 to R133). -/
inductive HubRow where
  | aboveLast
  | baroAltAp
  | gpsAltAp
  | gpsLongBp
  | gpsLongAp
  | gpsLatBp
  | gpsLatAp
  | gpsLongEw
  | gpsLatNs
  | other
  deriving DecidableEq, Repr

/-- The byte decoder: the state's rows in the order of R53, the delimiter test first in every state. -/
def decodeByte (st : SyncState) (b : Byte) : Instr :=
  match st with
  | .idle => if b = Config.delim then .idleDelim else .idleOther b
  | .inFrame =>
    if b = Config.delim then .inFrameDelim
    else if b = Config.esc then .inFrameEsc
    else .inFrameData b
  | .escaped => if b = Config.delim then .escapedDelim else .escapedData b

/-- The class of an `appId`: the if / else-if chain of R120. -/
def classify (p : Params) (appId : Half) : AppClass :=
  if appId = p.rssiId then .rssi
  else if appId = p.swrId then .swr
  else if Machine.highByte appId = 0 then .hub (Machine.lowByte appId)
  else if appId = p.altFirstId then .altFirst
  else .other

/-- The row of a Hub identifier: the range test of R122, then the table of R125 to R132, then R133. -/
def classifyHub (p : Params) (hubId : Byte) : HubRow :=
  if p.hubLastId < hubId then .aboveLast
  else if hubId = p.baroAltApId then .baroAltAp
  else if hubId = p.gpsAltApId then .gpsAltAp
  else if hubId = p.gpsLongBpId then .gpsLongBp
  else if hubId = p.gpsLongApId then .gpsLongAp
  else if hubId = p.gpsLatBpId then .gpsLatBp
  else if hubId = p.gpsLatApId then .gpsLatAp
  else if hubId = p.gpsLongEwId then .gpsLongEw
  else if hubId = p.gpsLatNsId then .gpsLatNs
  else .other

/-- The row of a Hub value (R122 to R133). -/
def decodeHub (p : Params) (hubId : Byte) (value : Half) : Instr :=
  match classifyHub p hubId with
  | .aboveLast => .hubAboveLast hubId
  | .baroAltAp => .hubBaroAltAp value
  | .gpsAltAp => .hubGpsAltAp value
  | .gpsLongBp => .hubGpsLongBp value
  | .gpsLongAp => .hubGpsLongAp value
  | .gpsLatBp => .hubGpsLatBp value
  | .gpsLatAp => .hubGpsLatAp value
  | .gpsLongEw => .hubGpsLongEw value
  | .gpsLatNs => .hubGpsLatNs value
  | .other => .hubOther hubId

/-- The class row of a DATA_FRAME (R120). `value16` is the low half of `value32` (R33). -/
def decodeClass (p : Params) (appId : Half) (value32 : Word) : Instr :=
  match classify p appId with
  | .rssi => .class1Rssi
  | .swr => .class1Swr
  | .hub hubId => .class2Hub hubId (Machine.lowHalf value32)
  | .altFirst => .class3AltFirst value32
  | .other => .class4Other appId

/-- The leaf row a DATA_FRAME reaches: its class row, refined in class 2 (R58). -/
def decodeData (p : Params) (appId : Half) (value32 : Word) : Instr :=
  match classify p appId with
  | .rssi => .class1Rssi
  | .swr => .class1Swr
  | .hub hubId => decodeHub p hubId (Machine.lowHalf value32)
  | .altFirst => .class3AltFirst value32
  | .other => .class4Other appId

/-- The gate: the `prim` test of R120. -/
def decodeGate (f : Frame) : Instr :=
  if Machine.primOf f = Config.dataFrame then .dispatch (Machine.appIdOf f) (Machine.value32Of f)
  else .frameNotData (Machine.primOf f)

/-- The leaf row of a frame (R58: the group rows are prefix tests that the leaf rows refine). -/
def decodeFrame (p : Params) (f : Frame) : Instr :=
  if Machine.primOf f = Config.dataFrame then decodeData p (Machine.appIdOf f) (Machine.value32Of f)
  else .frameNotData (Machine.primOf f)

/-- The row of a continuous function (R85, R96 to R103). -/
def decodeView : View → Instr
  | .check => .check
  | .dataId => .parseDataId
  | .prim => .parsePrim
  | .appId => .parseAppId
  | .value16 => .parseValue16
  | .value32 => .parseValue32
  | .trailer => .parseTrailer
  | .isDataFrame => .parseIsDataFrame
  | .isLegacy => .parseIsLegacy

/-- The decoder: total, one row for every selector (R8, R54). -/
def decode (p : Params) : Selector → Instr
  | .rst => .reset
  | .noByte => .noByte
  | .byte st b => decodeByte st b
  | .ninthStore => .complete
  | .view v => decodeView v
  | .gate f => decodeGate f
  | .classed f => decodeClass p (Machine.appIdOf f) (Machine.value32Of f)
  | .frame f => decodeFrame p f

/-- Why a list of destuffed bytes is no frame. -/
inductive DecodeError where
  /-- There is one frame length, nine (R49); the list has `n` bytes. -/
  | frameLength (n : Nat)
  deriving DecidableEq, Repr

/-- The decoder on a list of destuffed bytes: nine bytes are a frame, any other number is rejected by name. -/
def decodeFrameBytes (p : Params) : List Byte → Except DecodeError Instr
  | [b0, b1, b2, b3, b4, b5, b6, b7, b8] => .ok (decodeFrame p #v[b0, b1, b2, b3, b4, b5, b6, b7, b8])
  | bs => .error (.frameLength bs.length)

/-- The state whose rows a byte given without a state is read in: the table has one row for `0x7D`, of IN_FRAME; every other
byte is read in IDLE, the state after reset (log entry 9). -/
def tableState (b : Byte) : SyncState := if b = Config.esc then .inFrame else .idle

/-- The nine bytes of a 72-bit number `{buf[8], ..., buf[0]}` (R49). -/
def frameOfNat (w : Nat) : Frame := Vector.ofFn fun i => BitVec.ofNat 8 (w >>> (8 * i.val))

/-- The decoder on a table word. Up to eight bits the word is a byte, read in `tableState`; up to sixteen it is a frame of
which the row's pattern gives no more than `prim`, read at the gate; up to 72 it is a frame, read to its leaf row, with
the default parameters the table's patterns are written for (R58). -/
def decodeTableWord (nbits w : Nat) : Option Instr :=
  if nbits = 0 then none
  else if nbits ≤ 8 then some (decodeByte (tableState (BitVec.ofNat 8 w)) (BitVec.ofNat 8 w))
  else if nbits ≤ 16 then some (decodeGate (frameOfNat w))
  else if nbits ≤ 72 then some (decodeFrame Params.default (frameOfNat w))
  else none

/-! The encoder: the sender's side (R57), then the selector of every instruction. -/

/-- STUFF of one byte (R57). -/
def stuffByte (b : Byte) : List Byte :=
  if b = Config.delim ∨ b = Config.esc then [Config.esc, Machine.destuffed b] else [b]

/-- STUFF of a list (R57). -/
def stuff (bs : List Byte) : List Byte := bs.flatMap stuffByte

/-- WIRE (R57): the delimiter and the stuffed body. -/
def wire (f : Frame) : List Byte := Config.delim :: stuff f.toList

/-- TRAILER (R57, R92) of the seven bytes before it, from their accumulator. -/
def trailerFor (bs : List Byte) : Byte :=
  if Machine.chkSum 0 bs = 0 then 0xFF else BitVec.ofNat 8 (0xFF - Machine.chkSum 0 bs)

/-- MKFRAME (R57): the frame with the given fields and a trailer that makes the checksum good. -/
def mkFrame (dataId prim : Byte) (appId : Half) (value32 : Word) : Frame :=
  let a0 := Machine.lowByte appId
  let a1 := Machine.highByte appId
  let v0 := Machine.byteOf value32 0
  let v1 := Machine.byteOf value32 1
  let v2 := Machine.byteOf value32 2
  let v3 := Machine.byteOf value32 3
  #v[dataId, prim, a0, a1, v0, v1, v2, v3, trailerFor [prim, a0, a1, v0, v1, v2, v3]]

/-- A DATA_FRAME with the given operands; `dataId` is not looked at by any row and is 0 here. -/
def dataFrameOf (appId : Half) (value32 : Word) : Frame := mkFrame 0 Config.dataFrame appId value32

/-- The frame of a Hub value: `appId` has a zero high byte, bytes 6 and 7 are not looked at and are 0 here (R122). -/
def hubFrameOf (hubId : Byte) (value : Half) : Frame := dataFrameOf (hubAppId hubId) (value.setWidth 32)

/-- The encoder: the selector of a well-formed instruction, from the same table rows. -/
def encode (p : Params) : Instr → Selector
  | .idleDelim => .byte .idle Config.delim
  | .idleOther b => .byte .idle b
  | .inFrameDelim => .byte .inFrame Config.delim
  | .inFrameEsc => .byte .inFrame Config.esc
  | .inFrameData b => .byte .inFrame b
  | .escapedDelim => .byte .escaped Config.delim
  | .escapedData b => .byte .escaped b
  | .complete => .ninthStore
  | .noByte => .noByte
  | .reset => .rst
  | .check => .view .check
  | .parseDataId => .view .dataId
  | .parsePrim => .view .prim
  | .parseAppId => .view .appId
  | .parseValue16 => .view .value16
  | .parseValue32 => .view .value32
  | .parseTrailer => .view .trailer
  | .parseIsDataFrame => .view .isDataFrame
  | .parseIsLegacy => .view .isLegacy
  | .dispatch appId value32 => .gate (dataFrameOf appId value32)
  | .class1Rssi => .frame (dataFrameOf p.rssiId 0)
  | .class1Swr => .frame (dataFrameOf p.swrId 0)
  | .class2Hub hubId value => .classed (hubFrameOf hubId value)
  | .hubAboveLast hubId => .frame (hubFrameOf hubId 0)
  | .hubBaroAltAp value => .frame (hubFrameOf p.baroAltApId value)
  | .hubGpsAltAp value => .frame (hubFrameOf p.gpsAltApId value)
  | .hubGpsLongBp value => .frame (hubFrameOf p.gpsLongBpId value)
  | .hubGpsLongAp value => .frame (hubFrameOf p.gpsLongApId value)
  | .hubGpsLatBp value => .frame (hubFrameOf p.gpsLatBpId value)
  | .hubGpsLatAp value => .frame (hubFrameOf p.gpsLatApId value)
  | .hubGpsLongEw value => .frame (hubFrameOf p.gpsLongEwId value)
  | .hubGpsLatNs value => .frame (hubFrameOf p.gpsLatNsId value)
  | .hubOther hubId => .frame (hubFrameOf hubId 0)
  | .class3AltFirst value32 => .frame (dataFrameOf p.altFirstId value32)
  | .class4Other appId => .frame (dataFrameOf appId 0)
  | .frameNotData prim => .frame (mkFrame 0 prim 0 0)

end Sys2Proof
end

