-- ==== Sys2Proof/Machine/State.lean ====
section
/-! DEFINITION. The state of the machine as plain data: the four elements of FSYNC (`10_state.md` R10), the Telemetry State of
the annex TLM (`43_telemetry_annex.md` R116), and three fields of the model's own: the levels of the output lines, the
static parameters, and the bytes the environment has still to present. -/

namespace Sys2Proof.Machine

/-- What the environment puts on the input port in one cycle (R6): the reset line, and a byte or none. -/
structure Input where
  rst : Bool
  rx : Option Byte
  deriving DecidableEq, Repr

/-- A cycle with neither a reset nor a byte: `--` in the notation of R56. -/
def Input.none : Input := { rst := false, rx := Option.none }

/-- A cycle that presents the byte `b`. -/
def Input.byte (b : Byte) : Input := { rst := false, rx := some b }

/-- A hemisphere sign field: three-valued (R116, C8). -/
inductive HemiSign where
  /-- 0: no hemisphere marker has arrived. -/
  | unknown
  /-- +1. -/
  | plus
  /-- -1. -/
  | minus
  deriving DecidableEq, Repr

/-- The Telemetry State `T` (R116). -/
structure Telemetry where
  /-- Two's complement; its unit depends on the altitude source (R116, C6). -/
  altitude : Half
  latitudeSign : HemiSign
  longitudeSign : HemiSign
  latBP : Half
  latAP : Half
  lonBP : Half
  lonAP : Half
  hasFix : Bool
  hasLat : Bool
  hasLon : Bool
  deriving DecidableEq, Repr

/-- The reset values of R116. -/
def Telemetry.reset : Telemetry where
  altitude := 0
  latitudeSign := .unknown
  longitudeSign := .unknown
  latBP := 0
  latAP := 0
  lonBP := 0
  lonAP := 0
  hasFix := false
  hasLat := false
  hasLon := false

/-- The levels of the output lines other than `fv` (R16). They are combinational: no operation reads one, and every step
drives every one of them from the buffer and `fv` (log entry 3). -/
structure Outputs where
  chkAcc : Byte
  chkOk : Bool
  frameOk : Bool
  frameErr : Bool
  fDataId : Byte
  fPrim : Byte
  fAppId : Half
  fValue16 : Half
  fValue32 : Word
  fTrailer : Byte
  isDataFrame : Bool
  isLegacy : Bool
  hubId : Byte
  deriving DecidableEq, Repr

/-- The lines as the reset state drives them. Only `frameOk` and `frameErr` are the spec's (R22); the others follow from the
buffer's reset bytes, a DESIGN CHOICE (log entries 1 and 3). -/
def Outputs.reset : Outputs where
  chkAcc := 0
  chkOk := false
  frameOk := false
  frameErr := false
  fDataId := 0
  fPrim := 0
  fAppId := 0
  fValue16 := 0
  fValue32 := 0
  fTrailer := 0
  isDataFrame := false
  isLegacy := true
  hubId := 0

/-- The state of FSYNC with the annex TLM. -/
structure State where
  /-- The frame buffer `buf[0..8]` (R11). -/
  buf : Frame
  /-- The synchronizer's state `st` (R12). -/
  st : SyncState
  /-- The stored-byte counter `cnt`, 0 to 8 (R13, R15 (a)). -/
  cnt : Fin 9
  /-- The frame-valid strobe `fv`, state and output (R14). -/
  fv : Bool
  /-- The Telemetry State of the annex (R116). -/
  tlm : Telemetry
  /-- The MODEL's own field: the levels of the output lines after the step (R16, log entry 3). -/
  out : Outputs
  /-- The MODEL's own field: the static parameters of R5 and R118, which no operation writes (log entry 4). -/
  params : Params
  /-- The MODEL's own field: what the environment presents in the coming cycles, the next one first; after the last one, no
  byte (R6, R7, log entry 2). -/
  inputs : List Input
  deriving DecidableEq, Repr

/-- The machine after reset (R22, R165, R116). The spec leaves the buffer unspecified; the model names 0 for each of its bytes,
a DESIGN CHOICE (log entry 1). No input is pending: a stream is the environment's to present (log entry 8). -/
def State.reset : State where
  buf := Vector.replicate 9 0
  st := .idle
  cnt := 0
  fv := false
  tlm := Telemetry.reset
  out := Outputs.reset
  params := Params.default
  inputs := []

/-- Why the machine stops with a fault: for no reason. "FSYNC has no fault, no stuck state, no refusal and no hang" (R8), "No
condition in this subsystem is fatal" (R148); `InvalidChecksum` is an output, not a stop (R145). So the type has no
constructor, which is safe: no run of the model ends in a fault. -/
inductive Fault where
  deriving DecidableEq, Repr

/-- Why the model gives an instruction no meaning. -/
inductive Refusal where
  /-- Raised by a refused arm of `exec` alone, for an instruction that has no meaning yet. Safe: the model stops where the
  hardware goes on. Every arm has a meaning, so nothing raises it. -/
  | notModelled (mnemonic : String)
  deriving DecidableEq, Repr

end Sys2Proof.Machine
end

