-- ==== Sys2Proof/Machine/Ops.lean ====
section
/-! DEFINITION. The named operations over the state: the updates that every meaning is written with, the two operations SYNC
shares (`40_synchronizer.md` R70 to R73), and the report of `InvalidChecksum`, the one error there is (`60_exceptions.md`
R145, R150). There is no memory (`20_memory.md` R30) and no return from an error (R151). -/

namespace Sys2Proof.Machine

/-- The value of a sign field (R116). -/
def HemiSign.toInt : HemiSign → Int
  | .unknown => 0
  | .plus => 1
  | .minus => -1

/-- The two bits of a sign field, two's complement (R116). -/
def HemiSign.code : HemiSign → BitVec 2
  | .unknown => 0b00
  | .plus => 0b01
  | .minus => 0b11

/-- `st <- st'; cnt <- n; fv <- v`, the sequencing state and the strobe, which every operation of SYNC writes (R65). -/
def State.setSync (s : State) (st : SyncState) (cnt : Fin 9) (fv : Bool) : State :=
  { s with st := st, cnt := cnt, fv := fv }

/-- `buf[cnt] <- b` (R11). -/
def State.putByte (s : State) (b : Byte) : State :=
  { s with buf := s.buf.set s.cnt.val b s.cnt.isLt }

/-- `T <- t` (R116). -/
def State.setTlm (s : State) (t : Telemetry) : State := { s with tlm := t }

/-- Drive the output lines (R16). -/
def State.setOut (s : State) (o : Outputs) : State := { s with out := o }

/-- COMPLETE: the frame is complete (R73). `cnt` is written 0, not 9 (D7). -/
def completeFrame (s : State) : State := s.setSync .idle 0 true

/-- A store at index `cnt` with the count after it: COMPLETE at the ninth byte, else the next count and no strobe (R70, R72). `st`
is the caller's to write; COMPLETE overrides it (R72 (f)). -/
def storeCounted (b : Byte) (s : State) : State :=
  if h : s.cnt.val + 1 < 9 then (s.putByte b).setSync s.st ⟨s.cnt.val + 1, h⟩ false
  else completeFrame (s.putByte b)

/-- `raise InvalidChecksum(acc)`: the output `frame_err` is 1 and `chk_acc = acc`. Nothing is saved, no mode changes and control
goes nowhere (R9, R145, R150). -/
def raiseInvalidChecksum (acc : Byte) (s : State) : State :=
  s.setOut { s.out with chkAcc := acc, chkOk := false, frameOk := false, frameErr := true }

/-- The verdict lines of CHK (R86, R90): the error when a completed frame's accumulator is not good, else `frame_ok` for a
completed frame and neither between frames. -/
def driveCheck (s : State) : State :=
  if s.fv && !chkOkOf s.buf then raiseInvalidChecksum (chkAccOf s.buf) s
  else s.setOut { s.out with chkAcc := chkAccOf s.buf, chkOk := chkOkOf s.buf, frameOk := s.fv, frameErr := false }

/-- One outcome after another: the second runs on the first's next state. -/
def andThen (o : Host.Outcome State Fault Refusal) (k : State → Host.Outcome State Fault Refusal) :
    Host.Outcome State Fault Refusal :=
  match o with
  | .next s => k s
  | .fault r => .fault r
  | .refused r => .refused r

end Sys2Proof.Machine
end

