-- ==== Sys2Proof/Machine/Cycle.lean ====
section
/-! DEFINITION. One clock cycle, over any meaning of the rows: which row the input selects (`40_synchronizer.md` R65), which
frame row follows it (`43_telemetry_annex.md` R119), and the continuous rows that drive the outputs from the state after
the step (`10_state.md` R16). Beside it, how a table word is placed where the next step takes it. -/

namespace Sys2Proof.Machine

/-- What the environment presents in this cycle; after the last pending input, no byte (R6, log entry 2). -/
def currentInput (s : State) : Input := s.inputs.headD Input.none

/-- The input of this cycle is consumed, whatever becomes of it (R36, R165). -/
def State.consume (s : State) : State := { s with inputs := s.inputs.tail }

/-- What the input selects in state `st`: reset first, then no byte, then the byte (R65, R149). -/
def selectSync (st : SyncState) (i : Input) : Selector :=
  if i.rst then .rst
  else match i.rx with
    | none => .noByte
    | some b => .byte st b

/-- The row of SYNC this cycle runs: the machine's instruction fetch (R41, R65). -/
def fetch (s : State) : Instr := decode s.params (selectSync s.st (currentInput s))

/-- The frame rows of this cycle, on the state that SYNC's row left: one, when that row completed a frame whose checksum is good,
else none (R119). `fv` is 1 exactly when COMPLETE applied, since every row of SYNC writes it (R65). -/
def frameRows (s : State) : List Instr :=
  if s.fv && chkOkOf s.buf then [decode s.params (.gate s.buf)] else []

/-- The continuous rows (R85, R95). -/
def outputRows : List Instr :=
  [.check, .parseDataId, .parsePrim, .parseAppId, .parseValue16, .parseValue32, .parseTrailer,
   .parseIsDataFrame, .parseIsLegacy]

/-- Rows run one after another, by the meaning `ex`. -/
def runRows (ex : Instr → State → Host.Outcome State Fault Refusal) :
    List Instr → State → Host.Outcome State Fault Refusal
  | [], s => .next s
  | i :: is, s => andThen (ex i s) (runRows ex is)

/-- One cycle: SYNC's row, the frame row if a good frame was completed, and the output lines of the state after them. -/
def cycle (ex : Instr → State → Host.Outcome State Fault Refusal) (s : State) :
    Host.Outcome State Fault Refusal :=
  andThen (ex (fetch s) s.consume) fun s1 =>
    andThen (runRows ex (frameRows s1) s1) fun s2 => runRows ex outputRows s2

/-- Present `b` in the coming cycle, in place of what was pending there. -/
def presentByte (s : State) (b : Byte) : State := { s with inputs := Input.byte b :: s.inputs.tail }

/-- The trailer under which the frame's row runs: the frame's own if its checksum is good, else the one that makes it good, since
a FRAME row applies only to such a frame and its pattern says nothing of the trailer (R58, log entry 9). -/
def goodTrailer (f : Frame) : Byte :=
  if chkOkOf f then trailerOf f
  else trailerFor [f[1], f[2], f[3], f[4], f[5], f[6], f[7]]

/-- The frame `f` with eight of its bytes stored and its trailer presented, escaped where it must be, so that the coming cycle
completes it. -/
def presentFrame (s : State) (f : Frame) : State :=
  let t := goodTrailer f
  if t = Config.delim ∨ t = Config.esc then
    presentByte { s with buf := f, st := .escaped, cnt := 8 } (destuffed t)
  else presentByte { s with buf := f, st := .inFrame, cnt := 8 } t

/-- A table word placed where the next step takes it (log entry 9): a byte on the input port, met in the state whose row it is; a
frame as nine stored bytes, the ninth on the port. -/
def placeTableWord (s : State) (nbits w : Nat) : State :=
  if nbits ≤ 8 then
    presentByte { s with st := tableState (BitVec.ofNat 8 w) } (BitVec.ofNat 8 w)
  else presentFrame s (frameOfNat w)

end Sys2Proof.Machine
end

