-- ==== Sys2Proof/Machine/Check.lean ====
section
/-! DEFINITION. The meanings of the continuous rows: CHECK (`41_checksum.md` R85, R86, R90) and the eight PARSE rows
(`42_parser.md` R96 to R103). Each drives its own output lines from the buffer and changes nothing else. -/

namespace Sys2Proof.Machine

/-- CHECK: the accumulator and the verdict (R85, R86, R90). -/
def execCheck (s : State) : Host.Outcome State Fault Refusal := .next (driveCheck s)

/-- PARSE.DATA_ID (R96). -/
def execParseDataId (s : State) : Host.Outcome State Fault Refusal :=
  .next (s.setOut { s.out with fDataId := dataIdOf s.buf })

/-- PARSE.PRIM (R97). -/
def execParsePrim (s : State) : Host.Outcome State Fault Refusal :=
  .next (s.setOut { s.out with fPrim := primOf s.buf })

/-- PARSE.APP_ID (R98). -/
def execParseAppId (s : State) : Host.Outcome State Fault Refusal :=
  .next (s.setOut { s.out with fAppId := appIdOf s.buf })

/-- PARSE.VALUE16 (R99). -/
def execParseValue16 (s : State) : Host.Outcome State Fault Refusal :=
  .next (s.setOut { s.out with fValue16 := value16Of s.buf })

/-- PARSE.VALUE32 (R100). -/
def execParseValue32 (s : State) : Host.Outcome State Fault Refusal :=
  .next (s.setOut { s.out with fValue32 := value32Of s.buf })

/-- PARSE.TRAILER (R101). -/
def execParseTrailer (s : State) : Host.Outcome State Fault Refusal :=
  .next (s.setOut { s.out with fTrailer := trailerOf s.buf })

/-- PARSE.IS_DATA_FRAME (R102). -/
def execParseIsDataFrame (s : State) : Host.Outcome State Fault Refusal :=
  .next (s.setOut { s.out with isDataFrame := isDataFrameOf s.buf })

/-- PARSE.IS_LEGACY: `is_legacy` and `hub_id` (R103). -/
def execParseIsLegacy (s : State) : Host.Outcome State Fault Refusal :=
  .next (s.setOut { s.out with isLegacy := isLegacyOf s.buf, hubId := hubIdOf s.buf })

end Sys2Proof.Machine
end

