-- ==== Sys2Proof/Machine/Sync.lean ====
section
/-! DEFINITION. The meanings of SYNC's operations: the seven byte rows and the three events that write the sequencing state
(`40_synchronizer.md` R66 to R74; `70_reset_and_hazards.md` R165). The row is selected by the decoder; a meaning is the
rule's pseudocode on whatever state it is run in. -/

namespace Sys2Proof.Machine

/-- IDLE.DELIM: start of frame (R66). -/
def execIdleDelim (s : State) : Host.Outcome State Fault Refusal := .next (s.setSync .inFrame 0 false)

/-- IDLE.OTHER: the byte is discarded; an escape marker does not arm the destuffer (R67). -/
def execIdleOther (s : State) : Host.Outcome State Fault Refusal := .next (s.setSync s.st s.cnt false)

/-- IN_FRAME.DELIM: frame restart; `st` stays (R68). -/
def execInFrameDelim (s : State) : Host.Outcome State Fault Refusal := .next (s.setSync s.st 0 false)

/-- IN_FRAME.ESC: escape prefix, nothing stored (R69). -/
def execInFrameEsc (s : State) : Host.Outcome State Fault Refusal := .next (s.setSync .escaped s.cnt false)

/-- IN_FRAME.DATA: the wire byte is stored unchanged; `st` stays unless COMPLETE changes it (R70). -/
def execInFrameData (b : Byte) (s : State) : Host.Outcome State Fault Refusal := .next (storeCounted b s)

/-- ESCAPED.DELIM: the delimiter beats the pending escape, and nothing is stored (R71). -/
def execEscapedDelim (s : State) : Host.Outcome State Fault Refusal := .next (s.setSync .inFrame 0 false)

/-- ESCAPED.DATA: destuff and store, back to IN_FRAME unless COMPLETE overrides it (R72). -/
def execEscapedData (b : Byte) (s : State) : Host.Outcome State Fault Refusal :=
  .next (storeCounted (destuffed b) (s.setSync .inFrame s.cnt s.fv))

/-- COMPLETE: the frame is complete (R73). -/
def execComplete (s : State) : Host.Outcome State Fault Refusal := .next (completeFrame s)

/-- NOBYTE: a cycle with no byte writes only the strobe (R74). -/
def execNoByte (s : State) : Host.Outcome State Fault Refusal := .next (s.setSync s.st s.cnt false)

/-- RESET: the sequencing state and, in the annex, every field of the Telemetry State; the buffer is not written (R165). -/
def execReset (s : State) : Host.Outcome State Fault Refusal :=
  .next ((s.setSync .idle 0 false).setTlm Telemetry.reset)

end Sys2Proof.Machine
end

