-- ==== Sys2Proof/Machine/Tlm.lean ====
section
/-! DEFINITION. The meanings of the FRAME rows of the annex TLM (`43_telemetry_annex.md` R120 to R133) and the three accessors
(R135, R136). Each writes only the fields of the Telemetry State that its rule names (R137). -/

namespace Sys2Proof.Machine

/-- `trunc_16(100 * value)`: the product over the integers, its low 16 bits kept (R125, D19). -/
def centiScaled (value : Half) : Half := BitVec.ofNat 16 (100 * value.toNat)

/-- ALT32_CONV (R123): the default keeps the low 16 bits; the configured one is `Config.alt32Conv` (log entry 6). -/
def convertAlt32 (p : Params) (value32 : Word) : Half :=
  match p.alt32 with
  | .lowHalf => lowHalf value32
  | .configured => Config.alt32Conv p.altSrc value32

/-- CLASS1.RSSI: an accepted no-op (R121). -/
def execClass1Rssi (s : State) : Host.Outcome State Fault Refusal := .next s

/-- CLASS1.SWR: an accepted no-op (R121). -/
def execClass1Swr (s : State) : Host.Outcome State Fault Refusal := .next s

/-- HUB.ABOVE_LAST: "Frames whose legacy ID exceeds the last known legacy ID are ignored" (R122). -/
def execHubAboveLast (s : State) : Host.Outcome State Fault Refusal := .next s

/-- HUB.BARO_ALT_AP: live under ALT_SRC = VARIO (R125). -/
def execHubBaroAltAp (value : Half) (s : State) : Host.Outcome State Fault Refusal :=
  match s.params.altSrc with
  | .vario => .next (s.setTlm { s.tlm with altitude := centiScaled value })
  | .gps => .next s

/-- HUB.GPS_ALT_AP: live under ALT_SRC = GPS; the bits are copied (R126). -/
def execHubGpsAltAp (value : Half) (s : State) : Host.Outcome State Fault Refusal :=
  match s.params.altSrc with
  | .vario => .next s
  | .gps => .next (s.setTlm { s.tlm with altitude := value })

/-- HUB.GPS_LONG_BP: the integer degrees, and the fix flag from them alone (R127, R134). -/
def execHubGpsLongBp (value : Half) (s : State) : Host.Outcome State Fault Refusal :=
  .next (s.setTlm { s.tlm with lonBP := value, hasFix := value != 0 })

/-- HUB.GPS_LONG_AP (R128). -/
def execHubGpsLongAp (value : Half) (s : State) : Host.Outcome State Fault Refusal :=
  .next (s.setTlm { s.tlm with lonAP := value })

/-- HUB.GPS_LAT_BP: the integer degrees, and the fix flag from them alone (R129, R134). -/
def execHubGpsLatBp (value : Half) (s : State) : Host.Outcome State Fault Refusal :=
  .next (s.setTlm { s.tlm with latBP := value, hasFix := value != 0 })

/-- HUB.GPS_LAT_AP (R130). -/
def execHubGpsLatAp (value : Half) (s : State) : Host.Outcome State Fault Refusal :=
  .next (s.setTlm { s.tlm with latAP := value })

/-- HUB.GPS_LONG_EW: the whole 16-bit value is compared (R131). -/
def execHubGpsLongEw (value : Half) (s : State) : Host.Outcome State Fault Refusal :=
  .next (s.setTlm { s.tlm with
    longitudeSign := if value = Config.charE then .plus else .minus, hasLon := true })

/-- HUB.GPS_LAT_NS: the whole 16-bit value is compared (R132). -/
def execHubGpsLatNs (value : Half) (s : State) : Host.Outcome State Fault Refusal :=
  .next (s.setTlm { s.tlm with
    latitudeSign := if value = Config.charN then .plus else .minus, hasLat := true })

/-- HUB.OTHER: no effect (R133). -/
def execHubOther (s : State) : Host.Outcome State Fault Refusal := .next s

/-- CLASS3.ALT_FIRST: the 32-bit altitude, converted, under either altitude source (R123). -/
def execClass3AltFirst (value32 : Word) (s : State) : Host.Outcome State Fault Refusal :=
  .next (s.setTlm { s.tlm with altitude := convertAlt32 s.params value32 })

/-- CLASS4.OTHER: ignored, no error (R124). -/
def execClass4Other (s : State) : Host.Outcome State Fault Refusal := .next s

/-- FRAME.NOT_DATA: "silently ignored — not an error" (R120). -/
def execFrameNotData (s : State) : Host.Outcome State Fault Refusal := .next s

/-- CLASS2.HUB, the group row: the Hub row of the identifier (R122, R125 to R133). -/
def execClass2Hub (hubId : Byte) (value : Half) (s : State) : Host.Outcome State Fault Refusal :=
  match classifyHub s.params hubId with
  | .aboveLast => execHubAboveLast s
  | .baroAltAp => execHubBaroAltAp value s
  | .gpsAltAp => execHubGpsAltAp value s
  | .gpsLongBp => execHubGpsLongBp value s
  | .gpsLongAp => execHubGpsLongAp value s
  | .gpsLatBp => execHubGpsLatBp value s
  | .gpsLatAp => execHubGpsLatAp value s
  | .gpsLongEw => execHubGpsLongEw value s
  | .gpsLatNs => execHubGpsLatNs value s
  | .other => execHubOther s

/-- DISPATCH, the group row: the class of the `appId` (R120). -/
def execDispatch (appId : Half) (value32 : Word) (s : State) : Host.Outcome State Fault Refusal :=
  match classify s.params appId with
  | .rssi => execClass1Rssi s
  | .swr => execClass1Swr s
  | .hub hubId => execClass2Hub hubId (lowHalf value32) s
  | .altFirst => execClass3AltFirst value32 s
  | .other => execClass4Other s

/-- A coordinate in millionths of a degree, reduced to 32 bits two's complement (R135). -/
def coordinate (sign : HemiSign) (bp ap : Half) (apScale : Nat) : Word :=
  BitVec.ofInt 32 (sign.toInt * ((bp.toNat * 1000000 + ap.toNat * apScale : Nat) : Int))

/-- `getTargetLatitude()` (R135). -/
def targetLatitude (s : State) : Word :=
  coordinate s.tlm.latitudeSign s.tlm.latBP s.tlm.latAP s.params.apScale

/-- `getTargetLongitude()` (R135). -/
def targetLongitude (s : State) : Word :=
  coordinate s.tlm.longitudeSign s.tlm.lonBP s.tlm.lonAP s.params.apScale

/-- `getTargetAltitude()`: the field verbatim (R136). -/
def targetAltitude (s : State) : Half := s.tlm.altitude

end Sys2Proof.Machine
end

