-- ==== Sys2Proof/Machine/Dispatch.lean ====
section
/-! DEFINITION. One arm per row of the operation table, each one call of its meaning. -/

namespace Sys2Proof.Machine

def exec (i : Instr) (s : State) : Host.Outcome State Fault Refusal :=
  match i with
  | .idleDelim => Sys2Proof.Machine.execIdleDelim s
  | .idleOther _ => Sys2Proof.Machine.execIdleOther s
  | .inFrameDelim => Sys2Proof.Machine.execInFrameDelim s
  | .inFrameEsc => Sys2Proof.Machine.execInFrameEsc s
  | .inFrameData b => Sys2Proof.Machine.execInFrameData b s
  | .escapedDelim => Sys2Proof.Machine.execEscapedDelim s
  | .escapedData b => Sys2Proof.Machine.execEscapedData b s
  | .complete => Sys2Proof.Machine.execComplete s
  | .noByte => Sys2Proof.Machine.execNoByte s
  | .reset => Sys2Proof.Machine.execReset s
  | .check => Sys2Proof.Machine.execCheck s
  | .parseDataId => Sys2Proof.Machine.execParseDataId s
  | .parsePrim => Sys2Proof.Machine.execParsePrim s
  | .parseAppId => Sys2Proof.Machine.execParseAppId s
  | .parseValue16 => Sys2Proof.Machine.execParseValue16 s
  | .parseValue32 => Sys2Proof.Machine.execParseValue32 s
  | .parseTrailer => Sys2Proof.Machine.execParseTrailer s
  | .parseIsDataFrame => Sys2Proof.Machine.execParseIsDataFrame s
  | .parseIsLegacy => Sys2Proof.Machine.execParseIsLegacy s
  | .dispatch appId value32 => Sys2Proof.Machine.execDispatch appId value32 s
  | .class1Rssi => Sys2Proof.Machine.execClass1Rssi s
  | .class1Swr => Sys2Proof.Machine.execClass1Swr s
  | .class2Hub hubId value => Sys2Proof.Machine.execClass2Hub hubId value s
  | .hubAboveLast _ => Sys2Proof.Machine.execHubAboveLast s
  | .hubBaroAltAp value => Sys2Proof.Machine.execHubBaroAltAp value s
  | .hubGpsAltAp value => Sys2Proof.Machine.execHubGpsAltAp value s
  | .hubGpsLongBp value => Sys2Proof.Machine.execHubGpsLongBp value s
  | .hubGpsLongAp value => Sys2Proof.Machine.execHubGpsLongAp value s
  | .hubGpsLatBp value => Sys2Proof.Machine.execHubGpsLatBp value s
  | .hubGpsLatAp value => Sys2Proof.Machine.execHubGpsLatAp value s
  | .hubGpsLongEw value => Sys2Proof.Machine.execHubGpsLongEw value s
  | .hubGpsLatNs value => Sys2Proof.Machine.execHubGpsLatNs value s
  | .hubOther _ => Sys2Proof.Machine.execHubOther s
  | .class3AltFirst value32 => Sys2Proof.Machine.execClass3AltFirst value32 s
  | .class4Other _ => Sys2Proof.Machine.execClass4Other s
  | .frameNotData _ => Sys2Proof.Machine.execFrameNotData s

end Sys2Proof.Machine
end

