-- ==== Sys2Proof/Machine/Step.lean ====
section
/-! DEFINITION. One step of the machine is one clock cycle (`00_scope.md` R6) run by `exec`. -/

namespace Sys2Proof.Machine

/-- One step: the row SYNC's input selects, the frame row of a good frame, the output lines (R65, R119, R16). -/
def step (s : State) : Host.Outcome State Fault Refusal := cycle exec s

/-- `s` with a table word placed where the next step takes it. -/
def State.withFetchWord (s : State) (nbits w : Nat) : State := placeTableWord s nbits w

end Sys2Proof.Machine
end

