-- ==== Sys2Proof/Safety.lean ====
section
/-! DEFINITION. The terms the statements use: the outputs as the functions of the state that the spec tabulates (`10_state.md`
R16), the invariants of R15, runs of many cycles, and a reference for byte stuffing that knows nothing of the three-state
machine (`30_encoding.md` R48, R54). Nothing here is unsafe to run: the machine has no fault and no refusal (R8). -/

namespace Sys2Proof.Safety

open Sys2Proof.Machine

/-- The output lines as functions of `fv` and the buffer (R16, R85, R86, R90, R96 to R103). -/
def outputsOf (fv : Bool) (f : Frame) : Outputs where
  chkAcc := chkAccOf f
  chkOk := chkOkOf f
  frameOk := fv && chkOkOf f
  frameErr := fv && !chkOkOf f
  fDataId := dataIdOf f
  fPrim := primOf f
  fAppId := appIdOf f
  fValue16 := value16Of f
  fValue32 := value32Of f
  fTrailer := trailerOf f
  isDataFrame := isDataFrameOf f
  isLegacy := isLegacyOf f
  hubId := hubIdOf f

/-- The invariants of R15 that speak of one state, that the output lines show the state (R16), and that the parameters meet the
constraints of R117. R15 (a) is the type of `cnt`. -/
structure Inv (s : State) : Prop where
  idle_counts_none : s.st = .idle → s.cnt = 0
  strobe_is_idle : s.fv = true → s.st = .idle
  outputs_show : s.out = outputsOf s.fv s.buf
  params_ok : s.params.ok = true

/-- `k` cycles of the machine. -/
def run (k : Nat) (s : State) : Host.Outcome State Fault Refusal := Host.Core.run Sys2Proof.core k s

/-- A stream of bytes, one in every cycle (R56). -/
def stream (bs : List Byte) : List Input := bs.map Input.byte

/-- What a body (the bytes after a delimiter, none of them a delimiter) destuffs to: an escape marker is dropped and the byte
after it is XORed with the stuff mask; a marker with nothing after it yields nothing yet (R48). -/
def destuff : List Byte → List Byte
  | [] => []
  | [b] => if b = Config.esc then [] else [b]
  | b :: c :: rest =>
    if b = Config.esc then (c ^^^ Config.stuffMask) :: destuff rest else b :: destuff (c :: rest)

/-- Whether a body ends in an escape marker that still waits for its byte (R19 (1)). -/
def escapePending : List Byte → Bool
  | [] => false
  | [b] => b == Config.esc
  | b :: c :: rest => if b = Config.esc then escapePending rest else escapePending (c :: rest)

/-- The integer sum of the eight bytes CHK sums: `S` of R89. -/
def summed (f : Frame) : Nat := ((summedBytes f).map BitVec.toNat).sum

/-- The fields of the Telemetry State a frame row may write, by name (R125 to R133, R137): everything else is kept. -/
inductive TlmField where
  | altitude
  | latitudeSign
  | longitudeSign
  | latBP
  | latAP
  | lonBP
  | lonAP
  | hasFix
  | hasLat
  | hasLon
  deriving DecidableEq, Repr

/-- Field `k` of the two states is the same. -/
def sameField (t u : Telemetry) : TlmField → Prop
  | .altitude => t.altitude = u.altitude
  | .latitudeSign => t.latitudeSign = u.latitudeSign
  | .longitudeSign => t.longitudeSign = u.longitudeSign
  | .latBP => t.latBP = u.latBP
  | .latAP => t.latAP = u.latAP
  | .lonBP => t.lonBP = u.lonBP
  | .lonAP => t.lonAP = u.lonAP
  | .hasFix => t.hasFix = u.hasFix
  | .hasLat => t.hasLat = u.hasLat
  | .hasLon => t.hasLon = u.hasLon

/-- The fields each row's rule names (R121 to R133); DISPATCH and CLASS2.HUB write what the row they refine to writes, and RESET
writes them all (R165). -/
def writes : Instr → List TlmField
  | .hubBaroAltAp _ => [.altitude]
  | .hubGpsAltAp _ => [.altitude]
  | .class3AltFirst _ => [.altitude]
  | .hubGpsLongBp _ => [.lonBP, .hasFix]
  | .hubGpsLongAp _ => [.lonAP]
  | .hubGpsLatBp _ => [.latBP, .hasFix]
  | .hubGpsLatAp _ => [.latAP]
  | .hubGpsLongEw _ => [.longitudeSign, .hasLon]
  | .hubGpsLatNs _ => [.latitudeSign, .hasLat]
  | .reset => [.altitude, .latitudeSign, .longitudeSign, .latBP, .latAP, .lonBP, .lonAP, .hasFix, .hasLat, .hasLon]
  | .dispatch _ _ => [.altitude, .latitudeSign, .longitudeSign, .latBP, .latAP, .lonBP, .lonAP, .hasFix, .hasLat, .hasLon]
  | .class2Hub _ _ => [.altitude, .latitudeSign, .longitudeSign, .latBP, .latAP, .lonBP, .lonAP, .hasFix, .hasLat, .hasLon]
  | .idleDelim => []
  | .idleOther _ => []
  | .inFrameDelim => []
  | .inFrameEsc => []
  | .inFrameData _ => []
  | .escapedDelim => []
  | .escapedData _ => []
  | .complete => []
  | .noByte => []
  | .check => []
  | .parseDataId => []
  | .parsePrim => []
  | .parseAppId => []
  | .parseValue16 => []
  | .parseValue32 => []
  | .parseTrailer => []
  | .parseIsDataFrame => []
  | .parseIsLegacy => []
  | .class1Rssi => []
  | .class1Swr => []
  | .hubAboveLast _ => []
  | .hubOther _ => []
  | .class4Other _ => []
  | .frameNotData _ => []

end Sys2Proof.Safety
end

