-- ==== Sys2Proof/Certificates/Slice0/Obligations.lean ====
section
/-! DEFINITION. The statements for the provers, in the order of the spec's files: encodings, SYNC's rows, CHK and PARSE, the rows
of the annex, the step, and the properties of streams. A docstring names the rule a statement formalises; where it rests
on a decision the spec marks as its own, or on a choice of this model, it says so. -/

open Sys2Proof Sys2Proof.Machine Sys2Proof.Safety

/-! ## Encodings (`30_encoding.md`) -/

/-- Decoding the encoding of a well-formed instruction gives it back, for every row and every operand its encoding admits, under
every parameter choice that meets R117 (R53, R58). -/
def Obligations.DecodeOfEncodeIsTheInstruction : Prop :=
  ∀ (p : Params) (i : Instr), p.ok = true → i.wellFormed p = true → decode p (encode p i) = i

/-- The other direction for format BYTE: each of the 256 byte values met in each of the three states selects one well-formed row,
whose encoding is that byte in that state (R45, R53, R54). -/
def Obligations.EveryByteSelectsOneRow : Prop :=
  ∀ (p : Params) (st : SyncState) (b : Byte),
    (decode p (.byte st b)).wellFormed p = true ∧ encode p (decode p (.byte st b)) = .byte st b

/-- A few words written out from the spec: the byte rows of R53, and the frames of vectors V-PARSE-4, V-TLM-4, V-TLM-7, V-P1, V-P3,
V-P4, V-TLM-3 and V-TLM-12 with the defaults of R117 (PRESUMED by the spec, log entry 5). -/
def Obligations.WrittenWordsDecode : Prop :=
  decode Params.default (.byte .idle 0x7E) = .idleDelim ∧
  decode Params.default (.byte .idle 0x7D) = .idleOther 0x7D ∧
  decode Params.default (.byte .inFrame 0x7E) = .inFrameDelim ∧
  decode Params.default (.byte .inFrame 0x7D) = .inFrameEsc ∧
  decode Params.default (.byte .inFrame 0x5E) = .inFrameData 0x5E ∧
  decode Params.default (.byte .escaped 0x7E) = .escapedDelim ∧
  decode Params.default (.byte .escaped 0x7D) = .escapedData 0x7D ∧
  decodeFrameBytes Params.default [0x00, 0x10, 0x21, 0x00, 0x50, 0x00, 0x00, 0x00, 0x7E] = .ok (.hubBaroAltAp 0x0050) ∧
  decodeFrameBytes Params.default [0x1B, 0x10, 0x40, 0x00, 0x07, 0x00, 0x00, 0x00, 0xA8] = .ok (.hubAboveLast 0x40) ∧
  decodeFrameBytes Params.default [0x1B, 0x10, 0x09, 0x00, 0x50, 0x00, 0x00, 0x00, 0x96] = .ok (.hubGpsAltAp 0x0050) ∧
  decodeFrameBytes Params.default [0x1B, 0x10, 0x00, 0x01, 0x64, 0x00, 0x00, 0x00, 0x8A] = .ok (.class3AltFirst 0x00000064) ∧
  decodeFrameBytes Params.default [0x1B, 0x10, 0x12, 0x00, 0x34, 0x00, 0x00, 0x00, 0xA9] = .ok (.hubGpsLongBp 0x0034) ∧
  decodeFrameBytes Params.default [0x98, 0x10, 0x05, 0xF1, 0x00, 0x00, 0x00, 0x00, 0xF8] = .ok .class1Swr ∧
  decodeFrameBytes Params.default [0x1B, 0x10, 0x00, 0x02, 0x07, 0x00, 0x00, 0x00, 0xE6] = .ok (.class4Other 0x0200) ∧
  decodeFrameBytes Params.default [0x1B, 0x32, 0x13, 0x00, 0x34, 0x00, 0x00, 0x00, 0x86] = .ok (.frameNotData 0x32)

/-- MKFRAME and the receiver agree: the frame the sender builds passes CHK, and PARSE reads back every field it was built from (R57,
R92, R96 to R100). -/
def Obligations.BuiltFramesPassTheCheckAndReadBack : Prop :=
  ∀ (dataId prim : Byte) (appId : Half) (value32 : Word),
    let f := mkFrame dataId prim appId value32
    chkOkOf f = true ∧ dataIdOf f = dataId ∧ primOf f = prim ∧ appIdOf f = appId ∧ value32Of f = value32 ∧
      hubIdOf f = lowByte appId ∧ value16Of f = lowHalf value32

/-- A destuffed list that is not nine bytes long is no frame and is rejected by name; nine bytes are decoded as the frame (R49). -/
def Obligations.OnlyNineBytesAreAFrame : Prop :=
  ∀ (p : Params) (bs : List Byte),
    (bs.length ≠ 9 → decodeFrameBytes p bs = .error (.frameLength bs.length)) ∧
    ∀ f : Frame, bs = f.toList → decodeFrameBytes p bs = .ok (decode p (.frame f))

/-! ## SYNC's rows (`40_synchronizer.md`, `70_reset_and_hazards.md`) -/

/-- R66, IDLE.DELIM. -/
def Obligations.IdleDelimStartsAFrame : Prop :=
  (∀ p, decode p (.byte .idle 0x7E) = .idleDelim) ∧
  ∀ s : State, s.st = .idle → exec .idleDelim s = .next { s with st := .inFrame, cnt := 0, fv := false }

/-- R67, IDLE.OTHER, the escape marker included. -/
def Obligations.IdleOtherDiscards : Prop :=
  (∀ p b, b ≠ 0x7E → decode p (.byte .idle b) = .idleOther b) ∧
  ∀ b (s : State), b ≠ 0x7E → s.st = .idle → exec (.idleOther b) s = .next { s with fv := false }

/-- R68, IN_FRAME.DELIM: `st` stays and the buffer is not written. -/
def Obligations.InFrameDelimRestarts : Prop :=
  (∀ p, decode p (.byte .inFrame 0x7E) = .inFrameDelim) ∧
  ∀ s : State, s.st = .inFrame → exec .inFrameDelim s = .next { s with cnt := 0, fv := false }

/-- R69, IN_FRAME.ESC: nothing is stored and nothing is counted, at every count. -/
def Obligations.InFrameEscArmsTheDestuffer : Prop :=
  (∀ p, decode p (.byte .inFrame 0x7D) = .inFrameEsc) ∧
  ∀ s : State, s.st = .inFrame → exec .inFrameEsc s = .next { s with st := .escaped, fv := false }

/-- R70, IN_FRAME.DATA: the byte goes to `buf[cnt]` unchanged; below the ninth byte the count advances by one, and the ninth store
applies COMPLETE (R73). -/
def Obligations.InFrameDataStores : Prop :=
  (∀ p b, b ≠ 0x7E → b ≠ 0x7D → decode p (.byte .inFrame b) = .inFrameData b) ∧
  ∀ b (s : State), b ≠ 0x7E → b ≠ 0x7D → s.st = .inFrame →
    let stored := { s with buf := s.buf.set s.cnt.val b s.cnt.isLt }
    (s.cnt.val < 8 → exec (.inFrameData b) s = .next { stored with cnt := s.cnt + 1, fv := false }) ∧
    (s.cnt.val = 8 → exec (.inFrameData b) s = exec .complete stored)

/-- R71, ESCAPED.DELIM: nothing is stored and the pending escape is dropped. That the state after is `(IN_FRAME, 0)` is the spec's
decision D9. -/
def Obligations.EscapedDelimRestarts : Prop :=
  (∀ p, decode p (.byte .escaped 0x7E) = .escapedDelim) ∧
  ∀ s : State, s.st = .escaped → exec .escapedDelim s = .next { s with st := .inFrame, cnt := 0, fv := false }

/-- R72, ESCAPED.DATA: bit 5 of the wire byte is inverted, for every byte but the delimiter; the ninth store applies COMPLETE, which
overrides the write of `st`. That `0x7D` and needless escapes are data is the spec's decision D10, D11. -/
def Obligations.EscapedDataDestuffs : Prop :=
  (∀ p b, b ≠ 0x7E → decode p (.byte .escaped b) = .escapedData b) ∧
  ∀ b (s : State), b ≠ 0x7E → s.st = .escaped →
    let stored := { s with buf := s.buf.set s.cnt.val (b ^^^ 0x20) s.cnt.isLt }
    (s.cnt.val < 8 →
      exec (.escapedData b) s = .next { stored with st := .inFrame, cnt := s.cnt + 1, fv := false }) ∧
    (s.cnt.val = 8 → exec (.escapedData b) s = exec .complete stored)

/-- R73, COMPLETE. That `cnt` is written 0 is the spec's decision D7. -/
def Obligations.CompleteEmitsTheFrame : Prop :=
  (∀ p, decode p .ninthStore = .complete) ∧
  ∀ s : State, exec .complete s = .next { s with st := .idle, cnt := 0, fv := true }

/-- R74, NOBYTE, and R165, RESET, at the level of one row. Both are the spec's own wrapping (decisions D1, D3, D8). -/
def Obligations.NoByteAndResetRows : Prop :=
  (∀ p, decode p .noByte = .noByte ∧ decode p .rst = .reset) ∧
  ∀ s : State,
    exec .noByte s = .next { s with fv := false } ∧
    exec .reset s = .next { s with
      st := .idle, cnt := 0, fv := false,
      tlm := { altitude := 0, latitudeSign := .unknown, longitudeSign := .unknown, latBP := 0, latAP := 0,
               lonBP := 0, lonAP := 0, hasFix := false, hasLat := false, hasLon := false } }

/-! ## CHK (`41_checksum.md`) -/

/-- R89: the accumulator in closed form. Rests on the spec's derivation from R85, with its start value 0 (decision D12). -/
def Obligations.ChecksumClosedForm : Prop :=
  ∀ f : Frame, (chkAccOf f).toNat = if summed f = 0 then 0 else (summed f - 1) % 255 + 1

/-- R88: from every accumulator the machine can hold, the second fold and mask change nothing. -/
def Obligations.SecondFoldIsIdentity : Prop :=
  ∀ (acc : Nat) (x : Byte), acc ≤ 255 →
    foldCarry (foldCarry (acc + x.toNat)) = foldCarry (acc + x.toNat) ∧
    chkAdd acc x = if acc + x.toNat ≤ 255 then acc + x.toNat else acc + x.toNat - 255

/-- R85, R86, R90, CHECK: it drives the accumulator of bytes 1 to 8 and the verdict, and nothing else. The closed form is R89's; the
outputs are the spec's decisions D5, D12, D13. -/
def Obligations.CheckDrivesTheVerdict : Prop :=
  (∀ p, decode p (.view .check) = .check) ∧
  ∀ s : State, ∃ acc : Byte,
    (acc.toNat = if summed s.buf = 0 then 0 else (summed s.buf - 1) % 255 + 1) ∧
    exec .check s = .next { s with out := { s.out with
      chkAcc := acc, chkOk := acc == 0xFF,
      frameOk := s.fv && acc == 0xFF, frameErr := s.fv && acc != 0xFF } }

/-- R87: `dataId` is never covered, and each of the other eight bytes, the trailer included, is. -/
def Obligations.ChecksumCoversBytesOneToEight : Prop :=
  (∀ (f : Frame) (b : Byte), chkAccOf (f.set 0 b) = chkAccOf f) ∧
  ∀ (f : Frame) (i : Fin 9), i ≠ 0 → ∃ b : Byte, chkAccOf (f.set i.val b i.isLt) ≠ chkAccOf f

/-- R93 (a): inverting any single bit of bytes 1 to 8 of a valid frame makes it invalid. -/
def Obligations.EverySingleBitErrorIsDetected : Prop :=
  ∀ (f : Frame) (i : Fin 9) (k : Nat), i ≠ 0 → k < 8 → chkOkOf f = true →
    chkOkOf (f.set i.val (f[i] ^^^ BitVec.twoPow 8 k) i.isLt) = false

/-- R89, R93 (d): the order of the eight bytes does not matter. -/
def Obligations.ChecksumIgnoresOrder : Prop :=
  ∀ f g : Frame, (summedBytes f).Perm (summedBytes g) → chkAccOf f = chkAccOf g

/-- R92: which trailers make a frame valid, from the accumulator `a7` of the seven bytes before, and that TRAILER is one of them. -/
def Obligations.ValidTrailers : Prop :=
  ∀ (f : Frame) (t : Byte),
    let before := [f[1], f[2], f[3], f[4], f[5], f[6], f[7]]
    let a7 := chkSum 0 before
    (chkOkOf (f.set 8 t) = true ↔
      if a7 = 0 then t = 0xFF else if a7 = 255 then t = 0 ∨ t = 0xFF else t.toNat = 255 - a7) ∧
    chkOkOf (f.set 8 (trailerFor before)) = true

/-! ## PARSE (`42_parser.md`) -/

/-- R96, R97, R98, R99, R101: each row drives its own output line from its own bytes, and changes nothing else. -/
def Obligations.ParseFieldRows : Prop :=
  (∀ p, decode p (.view .dataId) = .parseDataId ∧ decode p (.view .prim) = .parsePrim ∧
    decode p (.view .appId) = .parseAppId ∧ decode p (.view .value16) = .parseValue16 ∧
    decode p (.view .trailer) = .parseTrailer) ∧
  ∀ s : State,
    exec .parseDataId s = .next { s with out := { s.out with fDataId := s.buf[0] } } ∧
    exec .parsePrim s = .next { s with out := { s.out with fPrim := s.buf[1] } } ∧
    (∃ v : Half, v.toNat = s.buf[2].toNat + 256 * s.buf[3].toNat ∧
      exec .parseAppId s = .next { s with out := { s.out with fAppId := v } }) ∧
    (∃ v : Half, v.toNat = s.buf[4].toNat + 256 * s.buf[5].toNat ∧
      exec .parseValue16 s = .next { s with out := { s.out with fValue16 := v } }) ∧
    exec .parseTrailer s = .next { s with out := { s.out with fTrailer := s.buf[8] } }

/-- R100, R33: the 32-bit view, in the byte order that is the spec's decision D15, and its low half, the 16-bit view. -/
def Obligations.ParseValue32Row : Prop :=
  (∀ p, decode p (.view .value32) = .parseValue32) ∧
  ∀ s : State, ∃ v : Word,
    v.toNat = s.buf[4].toNat + 2 ^ 8 * s.buf[5].toNat + 2 ^ 16 * s.buf[6].toNat + 2 ^ 24 * s.buf[7].toNat ∧
    v.setWidth 16 = value16Of s.buf ∧
    exec .parseValue32 s = .next { s with out := { s.out with fValue32 := v } }

/-- R102, R103: the two classifications, that a frame that is no data frame changes nothing, and that `is_legacy` says `appId` is at
most `0x00FF`. -/
def Obligations.ParseClassificationRows : Prop :=
  (∀ p, decode p (.view .isDataFrame) = .parseIsDataFrame ∧ decode p (.view .isLegacy) = .parseIsLegacy) ∧
  (∀ p f (s : State), isDataFrameOf f = false → exec (decode p (.frame f)) s = .next s) ∧
  ∀ s : State,
    exec .parseIsDataFrame s = .next { s with out := { s.out with isDataFrame := s.buf[1] == 0x10 } } ∧
    exec .parseIsLegacy s = .next { s with out := { s.out with isLegacy := s.buf[3] == 0x00, hubId := s.buf[2] } } ∧
    (s.buf[3] = 0x00 ↔ (appIdOf s.buf).toNat ≤ 0x00FF) ∧ s.buf[2] = lowByte (appIdOf s.buf)

/-! ## The annex TLM (`43_telemetry_annex.md`) -/

/-- R120, DISPATCH and FRAME.NOT_DATA: the gate and the order of the class tests. -/
def Obligations.DispatchGateAndOrder : Prop :=
  (∀ p f, primOf f ≠ 0x10 → decode p (.gate f) = .frameNotData (primOf f)) ∧
  (∀ p f, primOf f = 0x10 → decode p (.gate f) = .dispatch (appIdOf f) (value32Of f)) ∧
  (∀ b (s : State), exec (.frameNotData b) s = .next s) ∧
  ∀ (appId : Half) (value32 : Word) (s : State),
    (∃ t, exec (.dispatch appId value32) s = .next { s with tlm := t }) ∧
    exec (.dispatch appId value32) s =
      if appId = s.params.rssiId ∨ appId = s.params.swrId then .next s
      else if highByte appId = 0 then exec (.class2Hub (lowByte appId) (lowHalf value32)) s
      else if appId = s.params.altFirstId then exec (.class3AltFirst value32) s
      else .next s

/-- R121, CLASS1.RSSI and CLASS1.SWR: what selects them, and that they change nothing. -/
def Obligations.Class1AcceptedNoOps : Prop :=
  (∀ p f, appIdOf f = p.rssiId → decode p (.classed f) = .class1Rssi) ∧
  (∀ p f, appIdOf f = p.swrId → appIdOf f ≠ p.rssiId → decode p (.classed f) = .class1Swr) ∧
  ∀ s : State, exec .class1Rssi s = .next s ∧ exec .class1Swr s = .next s

/-- R122, CLASS2.HUB and HUB.ABOVE_LAST: what selects class 2, its operands, the range cut, and the table below it. -/
def Obligations.Class2HubRangeCut : Prop :=
  (∀ p f, appIdOf f ≠ p.rssiId → appIdOf f ≠ p.swrId → highByte (appIdOf f) = 0 →
    decode p (.classed f) = .class2Hub (lowByte (appIdOf f)) (value16Of f)) ∧
  (∀ hubId (s : State), exec (.hubAboveLast hubId) s = .next s) ∧
  ∀ hubId value (s : State),
    (∃ t, exec (.class2Hub hubId value) s = .next { s with tlm := t }) ∧
    (s.params.hubLastId < hubId →
      exec (.class2Hub hubId value) s = .next s ∧ decodeHub s.params hubId value = .hubAboveLast hubId) ∧
    (¬ s.params.hubLastId < hubId → exec (.class2Hub hubId value) s = exec (decodeHub s.params hubId value) s)

/-- R123, CLASS3.ALT_FIRST: the altitude is the conversion of the 32-bit value, under either altitude source; the default conversion
keeps the low 16 bits, and of the configured one nothing is known (the spec's decisions D18, D21, log entry 6). -/
def Obligations.Class3StoresTheConvertedAltitude : Prop :=
  (∀ p f, p.isClass1 (appIdOf f) = false → highByte (appIdOf f) ≠ 0 → appIdOf f = p.altFirstId →
    decode p (.classed f) = .class3AltFirst (value32Of f)) ∧
  ∀ value32 (s : State), ∃ a : Half,
    (s.params.alt32 = .lowHalf → a = value32.setWidth 16) ∧
    (s.params.alt32 = .configured → a = Config.alt32Conv s.params.altSrc value32) ∧
    exec (.class3AltFirst value32) s = .next { s with tlm := { s.tlm with altitude := a } }

/-- R124, R133, CLASS4.OTHER and HUB.OTHER: unknown identifiers select them and change nothing, and neither does any Hub identifier
but the eight, above the last one or not. -/
def Obligations.UnknownIdentifiersAreIgnored : Prop :=
  (∀ p f, p.isClass1 (appIdOf f) = false → highByte (appIdOf f) ≠ 0 → appIdOf f ≠ p.altFirstId →
    decode p (.classed f) = .class4Other (appIdOf f)) ∧
  (∀ p hubId value, ¬ p.hubLastId < hubId → hubId ∉ p.hubIds → decodeHub p hubId value = .hubOther hubId) ∧
  (∀ p hubId value (s : State), hubId ∉ p.hubIds → exec (decodeHub p hubId value) s = .next s) ∧
  ∀ s : State, (∀ appId, exec (.class4Other appId) s = .next s) ∧ (∀ hubId, exec (.hubOther hubId) s = .next s)

/-- R125, R126, HUB.BARO_ALT_AP and HUB.GPS_ALT_AP: the live source writes the altitude, the other changes nothing. That the product
keeps its low 16 bits is the spec's decision D19. -/
def Obligations.AltitudeRows : Prop :=
  ∀ value (s : State),
    (s.params.ok = true → decodeHub s.params s.params.baroAltApId value = .hubBaroAltAp value ∧
      decodeHub s.params s.params.gpsAltApId value = .hubGpsAltAp value) ∧
    (s.params.altSrc = .vario → ∃ a : Half, a.toNat = 100 * value.toNat % 65536 ∧
      exec (.hubBaroAltAp value) s = .next { s with tlm := { s.tlm with altitude := a } } ∧
      exec (.hubGpsAltAp value) s = .next s) ∧
    (s.params.altSrc = .gps →
      exec (.hubGpsAltAp value) s = .next { s with tlm := { s.tlm with altitude := value } } ∧
      exec (.hubBaroAltAp value) s = .next s)

/-- R127, R129, HUB.GPS_LONG_BP and HUB.GPS_LAT_BP. -/
def Obligations.BeforePointRows : Prop :=
  ∀ value (s : State),
    (s.params.ok = true → decodeHub s.params s.params.gpsLongBpId value = .hubGpsLongBp value ∧
      decodeHub s.params s.params.gpsLatBpId value = .hubGpsLatBp value) ∧
    exec (.hubGpsLongBp value) s = .next { s with tlm := { s.tlm with lonBP := value, hasFix := value != 0 } } ∧
    exec (.hubGpsLatBp value) s = .next { s with tlm := { s.tlm with latBP := value, hasFix := value != 0 } }

/-- R128, R130, HUB.GPS_LONG_AP and HUB.GPS_LAT_AP: `hasFix` is not touched. -/
def Obligations.AfterPointRows : Prop :=
  ∀ value (s : State),
    (s.params.ok = true → decodeHub s.params s.params.gpsLongApId value = .hubGpsLongAp value ∧
      decodeHub s.params s.params.gpsLatApId value = .hubGpsLatAp value) ∧
    exec (.hubGpsLongAp value) s = .next { s with tlm := { s.tlm with lonAP := value } } ∧
    exec (.hubGpsLatAp value) s = .next { s with tlm := { s.tlm with latAP := value } }

/-- R131, R132, HUB.GPS_LONG_EW and HUB.GPS_LAT_NS: `'E'` and `'N'` are compared at all 16 bits, and every other value gives -1. -/
def Obligations.HemisphereRows : Prop :=
  ∀ (value : Half) (s : State),
    (s.params.ok = true → decodeHub s.params s.params.gpsLongEwId value = .hubGpsLongEw value ∧
      decodeHub s.params s.params.gpsLatNsId value = .hubGpsLatNs value) ∧
    (∃ g : HemiSign, g.toInt = (if value = 0x0045 then 1 else -1) ∧
      exec (.hubGpsLongEw value) s = .next { s with tlm := { s.tlm with longitudeSign := g, hasLon := true } }) ∧
    (∃ g : HemiSign, g.toInt = (if value = 0x004E then 1 else -1) ∧
      exec (.hubGpsLatNs value) s = .next { s with tlm := { s.tlm with latitudeSign := g, hasLat := true } })

/-- R134: the most recent BP update, whichever its axis, determines `hasFix`, and neither axis's value is lost. -/
def Obligations.LastBeforePointUpdateWins : Prop :=
  ∀ (v w : Half) (s : State),
    (∃ t, andThen (exec (.hubGpsLatBp v) s) (exec (.hubGpsLongBp w)) = .next t ∧
      t.tlm = { s.tlm with latBP := v, lonBP := w, hasFix := w != 0 }) ∧
    (∃ t, andThen (exec (.hubGpsLongBp w) s) (exec (.hubGpsLatBp v)) = .next t ∧
      t.tlm = { s.tlm with latBP := v, lonBP := w, hasFix := v != 0 })

/-- R137: a row writes only the fields of the Telemetry State its rule names. (The two group rows are listed with every field; what
they write is what the row they refine to writes, by `GroupRowsRefineToLeafRows`.) -/
def Obligations.RowsWriteOnlyTheFieldsTheyName : Prop :=
  ∀ (i : Instr) (s t : State), exec i s = .next t → ∀ k : TlmField, k ∉ writes i → sameField s.tlm t.tlm k

/-- R58, R120: the group rows do exactly what the leaf row they refine to does, on every frame and under every parameter choice. -/
def Obligations.GroupRowsRefineToLeafRows : Prop :=
  ∀ (f : Frame) (s : State),
    exec (decode s.params (.gate f)) s = exec (decode s.params (.frame f)) s ∧
    (primOf f = 0x10 → exec (decode s.params (.classed f)) s = exec (decode s.params (.frame f)) s)

/-- R135, R136: the accessors. For every AP_SCALE and every component the coordinate is the signed sum reduced to 32 bits two's
complement; with AP_SCALE at its default 1 (decision D24) and at most 2147 whole degrees nothing is lost in that; before a
hemisphere marker it is 0 (decision D23). The reduction and the scale are D24, log entry 13. -/
def Obligations.AccessorsReadTheTelemetry : Prop :=
  ∀ s : State,
    ((targetLatitude s).toInt =
      (s.tlm.latitudeSign.toInt * (s.tlm.latBP.toNat * 1000000 + s.tlm.latAP.toNat * s.params.apScale)).bmod (2 ^ 32)) ∧
    ((targetLongitude s).toInt =
      (s.tlm.longitudeSign.toInt * (s.tlm.lonBP.toNat * 1000000 + s.tlm.lonAP.toNat * s.params.apScale)).bmod (2 ^ 32)) ∧
    (s.params.apScale = 1 → s.tlm.latBP.toNat ≤ 2147 →
      (targetLatitude s).toInt = s.tlm.latitudeSign.toInt * (s.tlm.latBP.toNat * 1000000 + s.tlm.latAP.toNat)) ∧
    (s.params.apScale = 1 → s.tlm.lonBP.toNat ≤ 2147 →
      (targetLongitude s).toInt = s.tlm.longitudeSign.toInt * (s.tlm.lonBP.toNat * 1000000 + s.tlm.lonAP.toNat)) ∧
    (s.tlm.latitudeSign = .unknown → targetLatitude s = 0) ∧
    (s.tlm.longitudeSign = .unknown → targetLongitude s = 0) ∧
    targetAltitude s = s.tlm.altitude

/-! ## The step -/

/-- One step runs the row that the input selects, then, when that row completed a frame whose checksum is good, the leaf row the
frame decodes to, and then drives the output lines from the state so reached (R65, R119, R16). The step's sources: the
spec's wrapping (D1, D5, D25) and the model's input queue (log entry 2). -/
def Obligations.StepRunsTheDecodedRows : Prop :=
  ∀ s : State,
    step s =
      andThen (exec (decode s.params (selectSync s.st (currentInput s))) { s with inputs := s.inputs.tail }) fun s1 =>
        andThen (if s1.fv = true ∧ chkOkOf s1.buf = true then exec (decode s1.params (.frame s1.buf)) s1 else .next s1)
          fun s2 => .next { s2 with out := outputsOf s2.fv s2.buf }

/-- R8: every row on every state, and every step of every state, answers a next state: no fault, no refusal. -/
def Obligations.EveryStepHasANextState : Prop :=
  (∀ (i : Instr) (s : State), ∃ t, exec i s = .next t) ∧
  (∀ s : State, ∃ t, step s = .next t) ∧
  ∀ (k : Nat) (s : State), ∃ t, run k s = .next t

/-- A table word placed by `withFetchWord` is what the next step runs: a byte as the row SYNC selects, a frame as the frame row of a
good frame. The placing is the model's choice (log entry 9). -/
def Obligations.PlacedTableWordsRun : Prop :=
  ∀ (s : State) (nbits w : Nat) (i : Instr),
    s.params = Params.default → decodeTableWord nbits w = some i →
    (nbits ≤ 8 → decode s.params
      (selectSync (s.withFetchWord nbits w).st (currentInput (s.withFetchWord nbits w))) = i) ∧
    (8 < nbits → ∃ s1 t, exec i s1 = .next { s1 with tlm := t.tlm } ∧ s1.tlm = s.tlm ∧ s1.params = s.params ∧
      step (s.withFetchWord nbits w) = .next t ∧ t.out.frameOk = true ∧
      ∀ j : Fin 9, j.val < 8 → t.buf[j] = (frameOfNat w)[j])

/-- R15 (b), (c), with R16 and R117: the invariants of one state are kept by every step, from every state that has them. -/
def Obligations.StepKeepsTheInvariant : Prop :=
  ∀ s t : State, Inv s → step s = .next t → Inv t

/-- The invariants hold after reset. The output lines' values there and the parameters are the model's choices (log entries 1, 3, 5,
7). -/
def Obligations.ResetHasTheInvariant : Prop := Inv State.reset

/-- R22, R116, what reset leaves where the spec gives a value: the sequencing state, the strobe and its verdicts, the Telemetry
State. The values of `st`, `cnt` and `fv` are the spec's decision D3. -/
def Obligations.ResetStateValues : Prop :=
  State.reset.st = .idle ∧ State.reset.cnt = 0 ∧ State.reset.fv = false ∧
  State.reset.out.frameOk = false ∧ State.reset.out.frameErr = false ∧
  State.reset.tlm = { altitude := 0, latitudeSign := .unknown, longitudeSign := .unknown, latBP := 0, latAP := 0,
                      lonBP := 0, lonAP := 0, hasFix := false, hasLat := false, hasLon := false }

/-- R16, R95: after every step, from any state at all, every output line is the function of `fv` and the buffer that the spec
tabulates. The wrapping is the spec's decision D5. -/
def Obligations.OutputsShowTheStateAfterTheStep : Prop :=
  ∀ s t : State, step s = .next t → t.out = outputsOf t.fv t.buf

/-- R165, R149 (1): a reset step from any state, whatever byte is presented with it, which is lost. The spec's decisions D3, D8. -/
def Obligations.ResetStepBeatsTheByte : Prop :=
  ∀ s : State, (currentInput s).rst = true →
    ∃ t, step s = .next t ∧ t.st = .idle ∧ t.cnt = 0 ∧ t.fv = false ∧ t.buf = s.buf ∧
      t.out.frameOk = false ∧ t.out.frameErr = false ∧ t.tlm = Telemetry.reset ∧
      t.params = s.params ∧ t.inputs = s.inputs.tail

/-- R11, R69, R71: no step writes a byte of the buffer other than `buf[cnt]`, and it writes that one only with a byte met in a frame
that is no delimiter, nor an escape marker met in IN_FRAME. R118: no step writes a parameter. The input of the cycle is
consumed. That a reset writes no byte of the buffer is the spec's decision D8. -/
def Obligations.StepFrame : Prop :=
  ∀ s t : State, step s = .next t →
    (∀ j : Fin 9, j ≠ s.cnt → t.buf[j] = s.buf[j]) ∧
    (t.buf ≠ s.buf → s.st ≠ .idle ∧
      ∃ b, currentInput s = Input.byte b ∧ b ≠ 0x7E ∧ (s.st = .inFrame → b ≠ 0x7D)) ∧
    t.params = s.params ∧ t.inputs = s.inputs.tail

/-- R146: a premature delimiter, and a byte outside a frame, are not reported: no strobe, no verdict, every other output the one that
the buffer, which is as before, already gave, and the Telemetry State as before. The state after is that of R68, R71 and R67; that
a delimiter met in ESCAPED leaves `(IN_FRAME, 0)` is the spec's decision D9 (log entry 11). -/
def Obligations.SyncLossIsSilent : Prop :=
  ∀ (s : State) (b : Byte), currentInput s = Input.byte b →
    (s.st ≠ .idle ∧ b = 0x7E) ∨ (s.st = .idle ∧ b ≠ 0x7E) →
    ∃ t, step s = .next t ∧ t.fv = false ∧ t.out.frameOk = false ∧ t.out.frameErr = false ∧
      t.out = outputsOf false s.buf ∧ t.tlm = s.tlm ∧ t.buf = s.buf ∧
      (b = 0x7E → t.st = .inFrame ∧ t.cnt = 0) ∧ (b ≠ 0x7E → t.st = .idle ∧ t.cnt = s.cnt)

/-- R150: what happens at an `InvalidChecksum`, completely: the ninth byte, plain or escaped, is stored and SYNC returns to IDLE as
for a good frame, `frame_err` is 1 with the accumulator shown, and the Telemetry State is not written. Which byte is stored is R70's
and R72's; that an escaped one is stored XORed whatever it is, `0x7D` included, is the spec's decision D10, D11 (log entry
11). -/
def Obligations.InvalidChecksumIsReportedAndHarmless : Prop :=
  ∀ (s : State) (b : Byte), currentInput s = Input.byte b → b ≠ 0x7E → s.cnt.val = 8 →
    (s.st = .inFrame ∧ b ≠ 0x7D) ∨ s.st = .escaped →
    let x := if s.st = .escaped then b ^^^ 0x20 else b
    let f := s.buf.set 8 x
    chkOkOf f = false →
    ∃ t, step s = .next t ∧ t.buf = f ∧ t.st = .idle ∧ t.cnt = 0 ∧ t.fv = true ∧
      t.out.chkOk = false ∧ t.out.chkAcc = chkAccOf f ∧ t.out.frameErr = true ∧ t.out.frameOk = false ∧
      t.tlm = s.tlm ∧ t.params = s.params

/-- R119: the same step with a good checksum applies the frame's row to the Telemetry State, in that step. That it is in that step is
the spec's decision D25 (log entry 14); `cnt = 0` after it is D7 (log entry 10), and the byte an escaped ninth byte stores is R72's
with D10, D11 (log entry 11). -/
def Obligations.GoodFrameUpdatesTelemetryInTheSameStep : Prop :=
  ∀ (s : State) (b : Byte), currentInput s = Input.byte b → b ≠ 0x7E → s.cnt.val = 8 →
    (s.st = .inFrame ∧ b ≠ 0x7D) ∨ s.st = .escaped →
    let x := if s.st = .escaped then b ^^^ 0x20 else b
    let f := s.buf.set 8 x
    chkOkOf f = true →
    ∃ t u, step s = .next t ∧ exec (decode s.params (.frame f)) s = .next u ∧ t.tlm = u.tlm ∧
      t.buf = f ∧ t.st = .idle ∧ t.cnt = 0 ∧ t.fv = true ∧ t.out.frameOk = true ∧ t.out.frameErr = false ∧
      t.params = s.params

/-- The whole-machine rule behind R91, R102, R119 and R120: outside a reset, the Telemetry State changes only in a step that accepts
a frame with `prim = 0x10` whose `appId` is no class 1 identifier and is a legacy one or ALT_FIRST_ID. -/
def Obligations.TelemetryChangesOnlyByAcceptedDataFrames : Prop :=
  ∀ s t : State, step s = .next t → t.tlm ≠ s.tlm →
    (currentInput s).rst = true ∨
    (t.out.frameOk = true ∧ t.out.fPrim = 0x10 ∧ t.out.fAppId ≠ s.params.rssiId ∧ t.out.fAppId ≠ s.params.swrId ∧
      (t.out.isLegacy = true ∨ t.out.fAppId = s.params.altFirstId))

/-- R138: with ALT_SRC = GPS no frame with the barometric identifier changes the altitude, and with ALT_SRC = VARIO none with the
GPS altitude identifier does. -/
def Obligations.AltitudeSourceIsolation : Prop :=
  ∀ s t : State, s.params.ok = true → (currentInput s).rst = false → step s = .next t → t.fv = true →
    t.out.isLegacy = true →
    (s.params.altSrc = .gps → t.out.hubId = s.params.baroAltApId → t.tlm.altitude = s.tlm.altitude) ∧
    (s.params.altSrc = .vario → t.out.hubId = s.params.gpsAltApId → t.tlm.altitude = s.tlm.altitude)

/-- R116: `hasLat` and `hasLon` are never cleared once set, but by a reset (R165), and a sign once known stays known. -/
def Obligations.HemisphereFlagsStaySet : Prop :=
  ∀ s t : State, (currentInput s).rst = false → step s = .next t →
    (s.tlm.hasLat = true → t.tlm.hasLat = true) ∧ (s.tlm.hasLon = true → t.tlm.hasLon = true) ∧
    (s.tlm.latitudeSign ≠ .unknown → t.tlm.latitudeSign ≠ .unknown) ∧
    (s.tlm.longitudeSign ≠ .unknown → t.tlm.longitudeSign ≠ .unknown)

/-- R14: two frames never complete within ten steps of each other, because at least a delimiter and nine bytes lie between. -/
def Obligations.TenStepsBetweenTwoFrames : Prop :=
  ∀ (s t : State) (k : Nat), Inv s → s.fv = true → 1 ≤ k → k ≤ 9 → run k s = .next t → t.fv = false

/-! ## Streams (`40_synchronizer.md` section 7, `20_memory.md` section 5) -/

/-- SYNC refines the reference `destuff`: after a delimiter and a body with no delimiter in it, from any state, a body that destuffs
to fewer than nine bytes has left them in `buf[0..cnt-1]` and the older bytes above; one that destuffs to nine, the last
byte of it stored, is a candidate frame; of one that goes on after its ninth stored byte (R35 (b)), the first nine are the
frame, the strobe is up in that one step, and the surplus changes neither the buffer nor the Telemetry State (R15 (d),
(e), R47, R48, R54, R78). The spec's decisions D7, D9, D10, D11 (log entries 10, 11). -/
def Obligations.SynchronizerRefinesDestuff : Prop :=
  ∀ (s : State) (body : List Byte) (rest : List Input),
    s.inputs = stream (0x7E :: body) ++ rest → 0x7E ∉ body →
    ((destuff body).length < 9 →
      ∃ t, run (body.length + 1) s = .next t ∧ t.cnt.val = (destuff body).length ∧
        t.st = (if escapePending body = true then .escaped else .inFrame) ∧ t.fv = false ∧
        (∀ j : Fin 9, ∀ h : j.val < (destuff body).length, t.buf[j] = (destuff body)[j.val]) ∧
        (∀ j : Fin 9, (destuff body).length ≤ j.val → t.buf[j] = s.buf[j]) ∧
        t.tlm = s.tlm ∧ t.params = s.params ∧ t.inputs = rest) ∧
    ((destuff body).length = 9 → escapePending body = false →
      ∃ t, run (body.length + 1) s = .next t ∧ t.st = .idle ∧ t.cnt = 0 ∧ t.fv = true ∧
        t.buf.toList = destuff body ∧ t.params = s.params ∧ t.inputs = rest) ∧
    (9 < (destuff body).length ∨ (destuff body).length = 9 ∧ escapePending body = true →
      ∃ k < body.length, destuff (body.take k) = (destuff body).take 9 ∧ escapePending (body.take k) = false ∧
        ∃ t, run (body.length + 1) s = .next t ∧ t.st = .idle ∧ t.cnt = 0 ∧ t.fv = false ∧
          t.buf.toList = (destuff body).take 9 ∧ t.params = s.params ∧ t.inputs = rest ∧
          ∀ j ≤ body.length, ∃ u, run (j + 1) s = .next u ∧ (u.fv = true ↔ j = k) ∧
            (k ≤ j → u.st = .idle ∧ u.cnt = 0 ∧ u.buf = t.buf ∧ u.tlm = t.tlm))

/-- R75: a delimiter forces `(IN_FRAME, 0)`, and nothing received before it affects the sequencing state after it, or the buffer as
seen at a strobe, whatever follows. The two runs may differ in everything before the delimiter, the parameters included. A start
in ESCAPED rests on the spec's decision D9 (log entry 11). -/
def Obligations.DelimiterForgetsThePast : Prop :=
  ∀ (s1 s2 : State) (rest : List Input) (k : Nat),
    s1.inputs = Input.byte 0x7E :: rest → s2.inputs = Input.byte 0x7E :: rest →
    ∃ t1 t2, run (k + 1) s1 = .next t1 ∧ run (k + 1) s2 = .next t2 ∧
      (k = 0 → t1.st = .inFrame ∧ t1.cnt = 0 ∧ t1.fv = false) ∧
      t1.st = t2.st ∧ t1.cnt = t2.cnt ∧ t1.fv = t2.fv ∧
      (t1.fv = true → t1.buf = t2.buf ∧ t1.out = t2.out)

/-- R76: from any state, a delimiter and nine plain bytes, with any number of empty cycles between them, end in the frame of those
bytes; the strobe is 0 after every earlier step. `cnt = 0` after it is the spec's decision D7 (log entry 10), and a start in
ESCAPED rests on D9 (log entry 11). -/
def Obligations.NinePlainBytesMakeAFrame : Prop :=
  ∀ (s : State) (f : Frame) (cycles rest : List Input) (last : Byte),
    s.inputs = Input.byte 0x7E :: (cycles ++ Input.byte last :: rest) →
    (∀ i ∈ cycles, i.rst = false) → cycles.filterMap (·.rx) ++ [last] = f.toList →
    (∀ j : Fin 9, f[j] ≠ 0x7E ∧ f[j] ≠ 0x7D) →
    (∃ t, run (cycles.length + 2) s = .next t ∧ t.fv = true ∧ t.st = .idle ∧ t.cnt = 0 ∧ t.buf = f ∧
      t.inputs = rest) ∧
    ∀ k ≤ cycles.length, ∃ t, run (k + 1) s = .next t ∧ t.fv = false

/-- R77, with R90, R119 and R174: the destuffing round trip, end to end. Any nine bytes sent as WIRE, from any state, arrive as they
were; the strobe is 0 after every earlier step; a frame with a good checksum is accepted and its row applied to the
Telemetry State, and one with a bad checksum is reported and changes no telemetry. `cnt = 0` after it is the spec's decision D7
(log entry 10), a start in ESCAPED rests on D9 (log entry 11), and the update in that step on D25 (log entry 14). -/
def Obligations.WireDeliversEveryFrame : Prop :=
  ∀ (s : State) (f : Frame) (rest : List Input), s.inputs = stream (wire f) ++ rest →
    (∃ t, run (wire f).length s = .next t ∧ t.fv = true ∧ t.st = .idle ∧ t.cnt = 0 ∧ t.buf = f ∧
      t.params = s.params ∧ t.inputs = rest ∧
      (chkOkOf f = true → t.out.frameOk = true ∧ t.out.frameErr = false ∧
        ∃ u, exec (decode s.params (.frame f)) s = .next u ∧ t.tlm = u.tlm) ∧
      (chkOkOf f = false → t.out.frameErr = true ∧ t.out.frameOk = false ∧ t.tlm = s.tlm)) ∧
    ∀ k, 1 ≤ k → k < (wire f).length → ∃ t, run k s = .next t ∧ t.fv = false

/-- R47: a wire frame is 10 to 19 bytes long, its delimiter included, and holds no delimiter but the first byte; destuffing what the
sender stuffed gives it back (R57). -/
def Obligations.WireFrameShape : Prop :=
  ∀ f : Frame, 10 ≤ (wire f).length ∧ (wire f).length ≤ 19 ∧ 0x7E ∉ stuff f.toList ∧
    destuff (stuff f.toList) = f.toList ∧ escapePending (stuff f.toList) = false

/-- R6, R37: nothing depends on the gaps. Taking every empty cycle out of a stream leaves the buffer, the sequencing state and the
Telemetry State it ends in as they were, and, from a state with the invariant, every output line but `frame_ok` and
`frame_err`, which depend on the one-cycle strobe (the spec's wrapping, D1, D5). The invariant is a premise because a
stream of empty cycles alone leaves nothing to step. -/
def Obligations.EmptyCyclesChangeNothingButTheStrobe : Prop :=
  ∀ (s : State) (xs : List Input),
    ∃ t u, run xs.length { s with inputs := xs } = .next t ∧
      run (xs.filter (· != Input.none)).length { s with inputs := xs.filter (· != Input.none) } = .next u ∧
      t.buf = u.buf ∧ t.st = u.st ∧ t.cnt = u.cnt ∧ t.tlm = u.tlm ∧ t.params = u.params ∧
      (Inv s → { t.out with frameOk := u.out.frameOk, frameErr := u.out.frameErr } = u.out)

/-- R54, R133, R147 across a run: with no reset in the stream, frames that are no DATA_FRAME never change the Telemetry State: if no
state of the run shows an accepted DATA_FRAME, the Telemetry State at its end is the one at its start. -/
def Obligations.NoAcceptedDataFrameNoTelemetry : Prop :=
  ∀ (n : Nat) (s t : State), (∀ i ∈ s.inputs, i.rst = false) → run n s = .next t →
    (∀ k u, 1 ≤ k → k ≤ n → run k s = .next u → u.out.frameOk = true → u.out.isDataFrame = false) →
    t.tlm = s.tlm
end

