-- ==== Sys2Proof/Laws/Checksum.lean ====
section
/-! SUPPORT. Arithmetic of the checksum's parts (`41_checksum.md` R85, R88): what one fold does, its bound, and the sum of a list
with a byte put in front or behind. -/

namespace Sys2Proof.Machine

/-- One fold of a value below two bytes: the high byte is added to the low byte's value, and eight bits are kept. -/
theorem foldCarry_eq (acc : Nat) : foldCarry acc = (acc + acc / 256) % 256 := by
  unfold foldCarry
  rw [show (0xFF : Nat) = 2 ^ 8 - 1 from rfl, Nat.and_two_pow_sub_one_eq_mod, Nat.shiftRight_eq_div_pow]

/-- A folded value is a byte. -/
theorem foldCarry_le (acc : Nat) : foldCarry acc ≤ 255 := by
  rw [foldCarry_eq]; omega

/-- A byte is its own fold. -/
theorem foldCarry_of_le {acc : Nat} (h : acc ≤ 255) : foldCarry acc = acc := by
  rw [foldCarry_eq]; omega

/-- The accumulator stays a byte. -/
theorem chkAdd_le (acc : Nat) (x : Byte) : chkAdd acc x ≤ 255 := foldCarry_le _

@[simp] theorem chkSum_nil (acc : Nat) : chkSum acc [] = acc := rfl

@[simp] theorem chkSum_cons (acc : Nat) (x : Byte) (xs : List Byte) :
    chkSum acc (x :: xs) = chkSum (chkAdd acc x) xs := rfl

theorem chkSum_append (acc : Nat) (xs ys : List Byte) : chkSum acc (xs ++ ys) = chkSum (chkSum acc xs) ys :=
  List.foldl_append

/-- A running accumulator that starts as a byte stays one. -/
theorem chkSum_le {acc : Nat} (h : acc ≤ 255) (xs : List Byte) : chkSum acc xs ≤ 255 := by
  induction xs generalizing acc with
  | nil => exact h
  | cons x xs ih => exact ih (chkAdd_le acc x)

end Sys2Proof.Machine
end

