-- ==== Sys2Proof/Laws/Decode.lean ====
section
/-! SUPPORT. Lemmas of the byte-order helpers and of the frames the encoder builds: cutting a field out of what was put together
gives it back (`20_memory.md` R32, R33). -/

namespace Sys2Proof

namespace Machine

/-- The 16-bit value of two bytes is `lo + 256 * hi`; it cannot overflow (R32). -/
@[simp] theorem toNat_le16 (lo hi : Byte) : (le16 lo hi).toNat = lo.toNat + 256 * hi.toNat := by
  simp only [le16, BitVec.toNat_ofNat]; omega

/-- The 32-bit value of four bytes is the sum R33 gives; it cannot overflow. -/
@[simp] theorem toNat_le32 (b0 b1 b2 b3 : Byte) :
    (le32 b0 b1 b2 b3).toNat = b0.toNat + 256 * b1.toNat + 65536 * b2.toNat + 16777216 * b3.toNat := by
  simp only [le32, BitVec.toNat_ofNat]; omega

@[simp] theorem toNat_lowByte (v : Half) : (lowByte v).toNat = v.toNat % 256 := rfl

@[simp] theorem toNat_highByte (v : Half) : (highByte v).toNat = v.toNat / 256 := by
  simp only [highByte, BitVec.toNat_ofNat]; omega

@[simp] theorem toNat_lowHalf (v : Word) : (lowHalf v).toNat = v.toNat % 65536 := rfl

@[simp] theorem toNat_byteOf (v : Word) (i : Nat) : (byteOf v i).toNat = v.toNat / 256 ^ i % 256 := rfl

@[simp] theorem lowByte_le16 (lo hi : Byte) : lowByte (le16 lo hi) = lo := by
  apply BitVec.eq_of_toNat_eq; simp; omega

@[simp] theorem highByte_le16 (lo hi : Byte) : highByte (le16 lo hi) = hi := by
  apply BitVec.eq_of_toNat_eq; simp; omega

/-- The two views of a payload agree: the low half of `value32` is `value16` (R33). -/
theorem lowHalf_le32 (b0 b1 b2 b3 : Byte) : lowHalf (le32 b0 b1 b2 b3) = le16 b0 b1 := by
  apply BitVec.eq_of_toNat_eq; simp; omega

/-- The bytes of a 16-bit value, put together again. -/
theorem le16_bytes (v : Half) : le16 (lowByte v) (highByte v) = v := by
  apply BitVec.eq_of_toNat_eq; simp; omega

/-- The bytes of a 32-bit value, put together again. -/
theorem le32_bytes (v : Word) : le32 (byteOf v 0) (byteOf v 1) (byteOf v 2) (byteOf v 3) = v := by
  apply BitVec.eq_of_toNat_eq; simp; omega

/-- A 16-bit value widened and cut again. -/
@[simp] theorem lowHalf_setWidth (v : Half) : lowHalf (v.setWidth 32) = v := by
  apply BitVec.eq_of_toNat_eq; simp; omega

/-- The 16-bit view of a frame is the low half of the 32-bit view (R33). -/
theorem lowHalf_value32Of (f : Frame) : lowHalf (value32Of f) = value16Of f := lowHalf_le32 _ _ _ _

end Machine

section MkFrame
variable (dataId prim : Byte) (appId : Half) (value32 : Word)

/-- PARSE reads back the operands MKFRAME was given (R57, R96 to R100). -/
@[simp] theorem primOf_mkFrame : Machine.primOf (mkFrame dataId prim appId value32) = prim := rfl
@[simp] theorem dataIdOf_mkFrame : Machine.dataIdOf (mkFrame dataId prim appId value32) = dataId := rfl
@[simp] theorem appIdOf_mkFrame : Machine.appIdOf (mkFrame dataId prim appId value32) = appId :=
  Machine.le16_bytes appId
@[simp] theorem value32Of_mkFrame : Machine.value32Of (mkFrame dataId prim appId value32) = value32 :=
  Machine.le32_bytes value32

end MkFrame

@[simp] theorem lowByte_hubAppId (hubId : Byte) : Machine.lowByte (hubAppId hubId) = hubId :=
  Machine.lowByte_le16 hubId 0
@[simp] theorem highByte_hubAppId (hubId : Byte) : Machine.highByte (hubAppId hubId) = 0 :=
  Machine.highByte_le16 hubId 0

end Sys2Proof
end

