-- ==== Sys2Proof/Laws/State.lean ====
section
/-! SUPPORT. The small lemmas of the state's updates: one per field per update, each true by unfolding. -/

namespace Sys2Proof.Machine

section SetSync
variable (s : State) (st : SyncState) (n : Fin 9) (v : Bool)
@[simp] theorem setSync_buf : (s.setSync st n v).buf = s.buf := rfl
@[simp] theorem setSync_st : (s.setSync st n v).st = st := rfl
@[simp] theorem setSync_cnt : (s.setSync st n v).cnt = n := rfl
@[simp] theorem setSync_fv : (s.setSync st n v).fv = v := rfl
@[simp] theorem setSync_tlm : (s.setSync st n v).tlm = s.tlm := rfl
@[simp] theorem setSync_out : (s.setSync st n v).out = s.out := rfl
@[simp] theorem setSync_params : (s.setSync st n v).params = s.params := rfl
@[simp] theorem setSync_inputs : (s.setSync st n v).inputs = s.inputs := rfl
end SetSync

section PutByte
variable (s : State) (b : Byte)
@[simp] theorem putByte_buf : (s.putByte b).buf = s.buf.set s.cnt.val b s.cnt.isLt := rfl
@[simp] theorem putByte_st : (s.putByte b).st = s.st := rfl
@[simp] theorem putByte_cnt : (s.putByte b).cnt = s.cnt := rfl
@[simp] theorem putByte_fv : (s.putByte b).fv = s.fv := rfl
@[simp] theorem putByte_tlm : (s.putByte b).tlm = s.tlm := rfl
@[simp] theorem putByte_out : (s.putByte b).out = s.out := rfl
@[simp] theorem putByte_params : (s.putByte b).params = s.params := rfl
@[simp] theorem putByte_inputs : (s.putByte b).inputs = s.inputs := rfl
end PutByte

section SetTlm
variable (s : State) (t : Telemetry)
@[simp] theorem setTlm_buf : (s.setTlm t).buf = s.buf := rfl
@[simp] theorem setTlm_st : (s.setTlm t).st = s.st := rfl
@[simp] theorem setTlm_cnt : (s.setTlm t).cnt = s.cnt := rfl
@[simp] theorem setTlm_fv : (s.setTlm t).fv = s.fv := rfl
@[simp] theorem setTlm_tlm : (s.setTlm t).tlm = t := rfl
@[simp] theorem setTlm_out : (s.setTlm t).out = s.out := rfl
@[simp] theorem setTlm_params : (s.setTlm t).params = s.params := rfl
@[simp] theorem setTlm_inputs : (s.setTlm t).inputs = s.inputs := rfl
end SetTlm

section SetOut
variable (s : State) (o : Outputs)
@[simp] theorem setOut_buf : (s.setOut o).buf = s.buf := rfl
@[simp] theorem setOut_st : (s.setOut o).st = s.st := rfl
@[simp] theorem setOut_cnt : (s.setOut o).cnt = s.cnt := rfl
@[simp] theorem setOut_fv : (s.setOut o).fv = s.fv := rfl
@[simp] theorem setOut_tlm : (s.setOut o).tlm = s.tlm := rfl
@[simp] theorem setOut_out : (s.setOut o).out = o := rfl
@[simp] theorem setOut_params : (s.setOut o).params = s.params := rfl
@[simp] theorem setOut_inputs : (s.setOut o).inputs = s.inputs := rfl
end SetOut

section Consume
variable (s : State)
@[simp] theorem consume_buf : s.consume.buf = s.buf := rfl
@[simp] theorem consume_st : s.consume.st = s.st := rfl
@[simp] theorem consume_cnt : s.consume.cnt = s.cnt := rfl
@[simp] theorem consume_fv : s.consume.fv = s.fv := rfl
@[simp] theorem consume_tlm : s.consume.tlm = s.tlm := rfl
@[simp] theorem consume_out : s.consume.out = s.out := rfl
@[simp] theorem consume_params : s.consume.params = s.params := rfl
@[simp] theorem consume_inputs : s.consume.inputs = s.inputs.tail := rfl
end Consume

end Sys2Proof.Machine
end

