-- ==== Sys2Proof/Laws/Ops.lean ====
section
/-! SUPPORT. One lemma for each shared operation that says once everything it can do. -/

namespace Sys2Proof.Machine

@[simp] theorem andThen_next (s : State) (k : State → Host.Outcome State Fault Refusal) :
    andThen (.next s) k = k s := rfl

/-- An outcome that `andThen` carries to a next state came through a next state of its first part. -/
theorem andThen_eq_next {o : Host.Outcome State Fault Refusal} {k : State → Host.Outcome State Fault Refusal}
    {t : State} (h : andThen o k = .next t) : ∃ s, o = .next s ∧ k s = .next t := by
  cases o with
  | next s => exact ⟨s, rfl, h⟩
  | fault r => cases r
  | refused r => cases h

/-- COMPLETE writes the sequencing state and the strobe, and nothing else. -/
theorem completeFrame_eq (s : State) : completeFrame s = { s with st := .idle, cnt := 0, fv := true } := rfl

/-- A store below the ninth byte: the byte, the next count, no strobe. -/
theorem storeCounted_of_lt (b : Byte) (s : State) (h : s.cnt.val < 8) :
    storeCounted b s =
      { s with buf := s.buf.set s.cnt.val b s.cnt.isLt, cnt := ⟨s.cnt.val + 1, by omega⟩, fv := false } := by
  unfold storeCounted
  rw [dif_pos (by omega)]
  rfl

/-- The ninth store: the byte, and COMPLETE. -/
theorem storeCounted_of_eq (b : Byte) (s : State) (h : s.cnt.val = 8) :
    storeCounted b s =
      { s with buf := s.buf.set s.cnt.val b s.cnt.isLt, st := .idle, cnt := 0, fv := true } := by
  unfold storeCounted
  rw [dif_neg (by omega)]
  rfl

/-- A store raises the strobe exactly when it is the ninth. -/
theorem storeCounted_fv (b : Byte) (s : State) : (storeCounted b s).fv = decide (s.cnt.val = 8) := by
  unfold storeCounted
  split
  · next h => simp; omega
  · next h => simp [completeFrame]; omega

@[simp] theorem storeCounted_buf (b : Byte) (s : State) :
    (storeCounted b s).buf = s.buf.set s.cnt.val b s.cnt.isLt := by
  unfold storeCounted; split <;> rfl

@[simp] theorem storeCounted_tlm (b : Byte) (s : State) : (storeCounted b s).tlm = s.tlm := by
  unfold storeCounted; split <;> rfl

@[simp] theorem storeCounted_params (b : Byte) (s : State) : (storeCounted b s).params = s.params := by
  unfold storeCounted; split <;> rfl

@[simp] theorem storeCounted_inputs (b : Byte) (s : State) : (storeCounted b s).inputs = s.inputs := by
  unfold storeCounted; split <;> rfl

/-- The report of `InvalidChecksum` writes four output lines, and nothing else (R150). -/
theorem raiseInvalidChecksum_eq (acc : Byte) (s : State) :
    raiseInvalidChecksum acc s =
      { s with out := { s.out with chkAcc := acc, chkOk := false, frameOk := false, frameErr := true } } := rfl

/-- CHK's lines in the form of R90. -/
theorem driveCheck_eq (s : State) :
    driveCheck s = s.setOut { s.out with
      chkAcc := chkAccOf s.buf, chkOk := chkOkOf s.buf,
      frameOk := s.fv && chkOkOf s.buf, frameErr := s.fv && !chkOkOf s.buf } := by
  unfold driveCheck raiseInvalidChecksum
  cases s.fv <;> cases chkOkOf s.buf <;> rfl

/-- The nine continuous rows together drive every output line from `fv` and the buffer, and change nothing else. -/
theorem runRows_outputRows (s : State) :
    runRows exec outputRows s = .next (s.setOut (Safety.outputsOf s.fv s.buf)) := by
  simp only [outputRows, runRows, exec, execCheck, driveCheck_eq, execParseDataId, execParsePrim, execParseAppId,
    execParseValue16, execParseValue32, execParseTrailer, execParseIsDataFrame, execParseIsLegacy, andThen_next,
    State.setOut, Safety.outputsOf]

end Sys2Proof.Machine
end

