-- ==== Sys2Proof/Laws/PerInstr.lean ====
section
/-! SUPPORT. What is said of every row of the operation table, one lemma per constructor: the format of its encoding is the one the
table's column gives it (`30_encoding.md` R53, R58), whatever its operands and whatever the parameters. -/

namespace Sys2Proof

namespace Laws

/-- The three formats of the table (R45, R49, R58). -/
inductive Format where
  | byte
  | event
  | frame
  deriving DecidableEq, Repr

/-- The format a selector is of. -/
def formatOf : Selector → Format
  | .rst => .event
  | .noByte => .event
  | .byte _ _ => .byte
  | .ninthStore => .event
  | .view _ => .event
  | .gate _ => .frame
  | .classed _ => .frame
  | .frame _ => .frame

/-- The column `format` of `spec/opcode_table.json`, row by row. -/
def formatColumn : Instr → Format
  | .idleDelim => .byte
  | .idleOther _ => .byte
  | .inFrameDelim => .byte
  | .inFrameEsc => .byte
  | .inFrameData _ => .byte
  | .escapedDelim => .byte
  | .escapedData _ => .byte
  | .complete => .event
  | .noByte => .event
  | .reset => .event
  | .check => .event
  | .parseDataId => .event
  | .parsePrim => .event
  | .parseAppId => .event
  | .parseValue16 => .event
  | .parseValue32 => .event
  | .parseTrailer => .event
  | .parseIsDataFrame => .event
  | .parseIsLegacy => .event
  | .dispatch _ _ => .frame
  | .class1Rssi => .frame
  | .class1Swr => .frame
  | .class2Hub _ _ => .frame
  | .hubAboveLast _ => .frame
  | .hubBaroAltAp _ => .frame
  | .hubGpsAltAp _ => .frame
  | .hubGpsLongBp _ => .frame
  | .hubGpsLongAp _ => .frame
  | .hubGpsLatBp _ => .frame
  | .hubGpsLatAp _ => .frame
  | .hubGpsLongEw _ => .frame
  | .hubGpsLatNs _ => .frame
  | .hubOther _ => .frame
  | .class3AltFirst _ => .frame
  | .class4Other _ => .frame
  | .frameNotData _ => .frame

namespace RowFormat

/-- A row is encoded in the format the table gives it. -/
def Statement (i : Instr) : Prop := ∀ p : Params, formatOf (encode p i) = formatColumn i

theorem idleDelim : Statement .idleDelim := fun _ => rfl
theorem idleOther (b : Byte) : Statement (.idleOther b) := fun _ => rfl
theorem inFrameDelim : Statement .inFrameDelim := fun _ => rfl
theorem inFrameEsc : Statement .inFrameEsc := fun _ => rfl
theorem inFrameData (b : Byte) : Statement (.inFrameData b) := fun _ => rfl
theorem escapedDelim : Statement .escapedDelim := fun _ => rfl
theorem escapedData (b : Byte) : Statement (.escapedData b) := fun _ => rfl
theorem complete : Statement .complete := fun _ => rfl
theorem noByte : Statement .noByte := fun _ => rfl
theorem reset : Statement .reset := fun _ => rfl
theorem check : Statement .check := fun _ => rfl
theorem parseDataId : Statement .parseDataId := fun _ => rfl
theorem parsePrim : Statement .parsePrim := fun _ => rfl
theorem parseAppId : Statement .parseAppId := fun _ => rfl
theorem parseValue16 : Statement .parseValue16 := fun _ => rfl
theorem parseValue32 : Statement .parseValue32 := fun _ => rfl
theorem parseTrailer : Statement .parseTrailer := fun _ => rfl
theorem parseIsDataFrame : Statement .parseIsDataFrame := fun _ => rfl
theorem parseIsLegacy : Statement .parseIsLegacy := fun _ => rfl
theorem dispatch (appId : Half) (value32 : Word) : Statement (.dispatch appId value32) := fun _ => rfl
theorem class1Rssi : Statement .class1Rssi := fun _ => rfl
theorem class1Swr : Statement .class1Swr := fun _ => rfl
theorem class2Hub (hubId : Byte) (value : Half) : Statement (.class2Hub hubId value) := fun _ => rfl
theorem hubAboveLast (hubId : Byte) : Statement (.hubAboveLast hubId) := fun _ => rfl
theorem hubBaroAltAp (value : Half) : Statement (.hubBaroAltAp value) := fun _ => rfl
theorem hubGpsAltAp (value : Half) : Statement (.hubGpsAltAp value) := fun _ => rfl
theorem hubGpsLongBp (value : Half) : Statement (.hubGpsLongBp value) := fun _ => rfl
theorem hubGpsLongAp (value : Half) : Statement (.hubGpsLongAp value) := fun _ => rfl
theorem hubGpsLatBp (value : Half) : Statement (.hubGpsLatBp value) := fun _ => rfl
theorem hubGpsLatAp (value : Half) : Statement (.hubGpsLatAp value) := fun _ => rfl
theorem hubGpsLongEw (value : Half) : Statement (.hubGpsLongEw value) := fun _ => rfl
theorem hubGpsLatNs (value : Half) : Statement (.hubGpsLatNs value) := fun _ => rfl
theorem hubOther (hubId : Byte) : Statement (.hubOther hubId) := fun _ => rfl
theorem class3AltFirst (value32 : Word) : Statement (.class3AltFirst value32) := fun _ => rfl
theorem class4Other (appId : Half) : Statement (.class4Other appId) := fun _ => rfl
theorem frameNotData (prim : Byte) : Statement (.frameNotData prim) := fun _ => rfl

end RowFormat

end Laws

end Sys2Proof
end

