-- ==== Sys2Proof/Laws/Tlm.lean ====
section
/-! SUPPORT. What the frame rows can do: every one answers a next state that differs in the Telemetry State alone, and the group
rows do what the row they refine to does. -/

namespace Sys2Proof.Machine

/-- CLASS2.HUB runs the row its identifier selects (R122). -/
theorem execClass2Hub_eq_leaf (hubId : Byte) (value : Half) (s : State) :
    execClass2Hub hubId value s = exec (decodeHub s.params hubId value) s := by
  unfold execClass2Hub decodeHub
  cases classifyHub s.params hubId <;> rfl

/-- DISPATCH runs the leaf row its operands select (R120). -/
theorem execDispatch_eq_leaf (appId : Half) (value32 : Word) (s : State) :
    execDispatch appId value32 s = exec (decodeData s.params appId value32) s := by
  unfold execDispatch decodeData
  cases classify s.params appId with
  | hub hubId => exact execClass2Hub_eq_leaf hubId _ s
  | rssi => rfl
  | swr => rfl
  | altFirst => rfl
  | other => rfl

/-- The row of a Hub value writes the Telemetry State and nothing else. -/
theorem exec_decodeHub_next (p : Params) (hubId : Byte) (value : Half) (s : State) :
    ∃ t, exec (decodeHub p hubId value) s = .next (s.setTlm t) := by
  unfold decodeHub
  cases classifyHub p hubId with
  | aboveLast => exact ⟨_, rfl⟩
  | baroAltAp =>
    simp only [exec, execHubBaroAltAp]
    cases s.params.altSrc <;> exact ⟨_, rfl⟩
  | gpsAltAp =>
    simp only [exec, execHubGpsAltAp]
    cases s.params.altSrc <;> exact ⟨_, rfl⟩
  | gpsLongBp => exact ⟨_, rfl⟩
  | gpsLongAp => exact ⟨_, rfl⟩
  | gpsLatBp => exact ⟨_, rfl⟩
  | gpsLatAp => exact ⟨_, rfl⟩
  | gpsLongEw => exact ⟨_, rfl⟩
  | gpsLatNs => exact ⟨_, rfl⟩
  | other => exact ⟨_, rfl⟩

/-- The leaf row of a frame writes the Telemetry State and nothing else. -/
theorem exec_decodeFrame_next (p : Params) (f : Frame) (s : State) :
    ∃ t, exec (decodeFrame p f) s = .next (s.setTlm t) := by
  unfold decodeFrame
  split
  · unfold decodeData
    cases classify p (appIdOf f) with
    | hub hubId => exact exec_decodeHub_next p hubId _ s
    | rssi => exact ⟨_, rfl⟩
    | swr => exact ⟨_, rfl⟩
    | altFirst => exact ⟨_, rfl⟩
    | other => exact ⟨_, rfl⟩
  · exact ⟨_, rfl⟩

/-- The gate's row does what the frame's leaf row does. -/
theorem exec_decodeGate_eq (f : Frame) (s : State) :
    exec (decodeGate f) s = exec (decodeFrame s.params f) s := by
  unfold decodeGate decodeFrame
  split
  · exact execDispatch_eq_leaf _ _ s
  · rfl

/-- With admissible parameters a Hub identifier at or below the last, and not in the table, selects the default row. -/
theorem classifyHub_of_notMem {p : Params} {hubId : Byte} (hle : ¬ p.hubLastId < hubId) (h : hubId ∉ p.hubIds) :
    classifyHub p hubId = .other := by
  simp only [Params.hubIds, List.mem_cons, not_or] at h
  obtain ⟨h1, h2, h3, h4, h5, h6, h7, h8, -⟩ := h
  simp [classifyHub, hle, h1, h2, h3, h4, h5, h6, h7, h8]

/-- The constraints of R117, one by one. -/
theorem Params.ok_iff (p : Params) :
    p.ok = true ↔ p.hubIds.Nodup ∧ (∀ i ∈ p.hubIds, ¬ p.hubLastId < i) ∧ highByte p.altFirstId ≠ 0 := by
  simp [Params.ok, and_assoc, BitVec.not_lt]

end Sys2Proof.Machine
end

