-- ==== Sys2Proof/Laws/Step.lean ====
section
/-! SUPPORT. What a step can do, said once: the row SYNC runs, the frame row, the output lines. -/

namespace Sys2Proof.Machine

/-- What SYNC's row for one input leaves in the fields it writes, as one function: the table of `40_synchronizer.md` section 6. -/
theorem exec_fetch_cases (s : State) :
    ((currentInput s).rst = true ∧ exec (fetch s) s.consume = .next ((s.consume.setSync .idle 0 false).setTlm Telemetry.reset)) ∨
    (currentInput s = Input.none ∧ exec (fetch s) s.consume = .next (s.consume.setSync s.st s.cnt false)) ∨
    (currentInput s = Input.byte Config.delim ∧ exec (fetch s) s.consume = .next (s.consume.setSync .inFrame 0 false)) ∨
    (∃ b, currentInput s = Input.byte b ∧ b ≠ Config.delim ∧ s.st = .idle ∧
      exec (fetch s) s.consume = .next (s.consume.setSync .idle s.cnt false)) ∨
    (currentInput s = Input.byte Config.esc ∧ s.st = .inFrame ∧
      exec (fetch s) s.consume = .next (s.consume.setSync .escaped s.cnt false)) ∨
    (∃ b, currentInput s = Input.byte b ∧ b ≠ Config.delim ∧ b ≠ Config.esc ∧ s.st = .inFrame ∧
      exec (fetch s) s.consume = .next (storeCounted b s.consume)) ∨
    (∃ b, currentInput s = Input.byte b ∧ b ≠ Config.delim ∧ s.st = .escaped ∧
      exec (fetch s) s.consume = .next (storeCounted (destuffed b) (s.consume.setSync .inFrame s.cnt s.fv))) := by
  rcases hi : currentInput s with ⟨rst, rx⟩
  cases rst with
  | true => exact .inl ⟨rfl, by simp [fetch, hi, selectSync, decode, exec, execReset]⟩
  | false =>
    refine .inr ?_
    cases rx with
    | none => exact .inl ⟨rfl, by simp [fetch, hi, selectSync, decode, exec, execNoByte]⟩
    | some b =>
      refine .inr ?_
      by_cases hb : b = Config.delim
      · subst hb
        refine .inl ⟨rfl, ?_⟩
        cases hs : s.st <;>
          simp [fetch, hi, selectSync, decode, decodeByte, hs, exec, execIdleDelim, execInFrameDelim, execEscapedDelim]
      · refine .inr ?_
        cases hs : s.st with
        | idle =>
          exact .inl ⟨b, rfl, hb, rfl, by
            simp [fetch, hi, selectSync, decode, decodeByte, hs, hb, exec, execIdleOther]⟩
        | inFrame =>
          refine .inr ?_
          by_cases he : b = Config.esc
          · subst he
            exact .inl ⟨rfl, rfl, by simp [fetch, hi, selectSync, decode, decodeByte, hs, hb, exec, execInFrameEsc]⟩
          · exact .inr (.inl ⟨b, rfl, hb, he, rfl, by
              simp [fetch, hi, selectSync, decode, decodeByte, hs, hb, he, exec, execInFrameData]⟩)
        | escaped =>
          exact .inr (.inr (.inr ⟨b, rfl, hb, rfl, by
            simp [fetch, hi, selectSync, decode, decodeByte, hs, hb, exec, execEscapedData]⟩))

/-- The frame row, when SYNC's row left a completed frame with a good checksum; else nothing. -/
theorem runRows_frameRows (s : State) :
    runRows exec (frameRows s) s =
      if s.fv = true ∧ chkOkOf s.buf = true then exec (decodeFrame s.params s.buf) s else .next s := by
  unfold frameRows
  by_cases h : s.fv = true ∧ chkOkOf s.buf = true
  · rw [if_pos h, if_pos (by simpa using h)]
    simp only [runRows, decode, exec_decodeGate_eq]
    obtain ⟨t, ht⟩ := exec_decodeFrame_next s.params s.buf s
    rw [ht]; rfl
  · rw [if_neg h, if_neg (by simpa using h)]
    rfl

/-- What a step can do: from the state `s1` that SYNC's row leaves, it writes the Telemetry State (only for a completed frame with a
good checksum) and the output lines, and nothing else. -/
theorem step_cases {s t : State} (h : step s = .next t) :
    ∃ s1 u, exec (fetch s) s.consume = .next s1 ∧
      runRows exec (frameRows s1) s1 = .next (s1.setTlm u) ∧
      (¬ (s1.fv = true ∧ chkOkOf s1.buf = true) → u = s1.tlm) ∧
      t = (s1.setTlm u).setOut (Safety.outputsOf s1.fv s1.buf) := by
  obtain ⟨s1, h1, h2⟩ := andThen_eq_next h
  obtain ⟨s2, h3, h4⟩ := andThen_eq_next h2
  rw [runRows_outputRows] at h4
  have hu : ∃ u, s2 = s1.setTlm u ∧ (¬ (s1.fv = true ∧ chkOkOf s1.buf = true) → u = s1.tlm) := by
    rw [runRows_frameRows] at h3
    split at h3
    · next hc =>
      obtain ⟨u, hu⟩ := exec_decodeFrame_next s1.params s1.buf s1
      rw [hu] at h3
      exact ⟨u, by injection h3 with h3; exact h3.symm, fun hn => absurd hc hn⟩
    · exact ⟨s1.tlm, by injection h3 with h3; exact h3.symm, fun _ => rfl⟩
  obtain ⟨u, rfl, hn⟩ := hu
  exact ⟨s1, u, h1, h3, hn, by injection h4 with h4; exact h4.symm⟩

/-- No cycles. -/
@[simp] theorem run_zero (s : State) : Safety.run 0 s = .next s := rfl

/-- A run's first cycle is a step. -/
theorem run_succ {s t : State} (k : Nat) (h : step s = .next t) : Safety.run (k + 1) s = Safety.run k t := by
  have hc : core.step s = .next t := h
  show core.run (k + 1) s = core.run k t
  simp only [Host.Core.run, hc]

end Sys2Proof.Machine
end

