-- ==== Sys2Proof/Tests/Slice0.lean ====
section
/-! SUPPORT. Our own tests: what WellFormed refuses, decoding from words written out of the spec, one step of every row on a small
state, and for every statement with hypotheses a state and operands that meet them. Expected values are those of
`95_test_vectors.md` (the vector is named) or of the rule named. -/

namespace Sys2Proof.Tests

open Sys2Proof.Machine Sys2Proof.Safety

/-! ## Helpers -/

/-- Nine zero bytes. -/
def z : Frame := #v[0, 0, 0, 0, 0, 0, 0, 0, 0]

/-- Nine bytes that no row writes by chance. -/
def junk : Frame := #v[0xA1, 0xA2, 0xA3, 0xA4, 0xA5, 0xA6, 0xA7, 0xA8, 0xA9]

/-- A state of SYNC with pending inputs. -/
def mk (st : SyncState) (cnt : Fin 9) (buf : Frame) (inputs : List Input) : State :=
  { State.reset with st := st, cnt := cnt, buf := buf, inputs := inputs }

/-- A state with the buffer `f`, in the cycle after its ninth store. -/
def shown (f : Frame) : State := { State.reset with buf := f, fv := true }

/-- A state with eight bytes of `f` stored and its ninth, a plain byte, on the port. -/
def last (f : Frame) : State := mk .inFrame 8 (f.set 8 0) [Input.byte f[8]]

/-- The next state, where there is one. -/
def nx : Host.Outcome State Fault Refusal → Option State
  | .next s => some s
  | .fault _ => none
  | .refused _ => none

/-- The state after one step, and the state itself where there is none. -/
def after (s : State) : State := (nx (step s)).getD s

/-- What SYNC's tables show: the sequencing state, the strobe, the buffer. -/
def seq (s : State) : SyncState × Fin 9 × Bool × Frame := (s.st, s.cnt, s.fv, s.buf)

/-- One step, seen as SYNC's tables show it. -/
def stepSeq (s : State) : Option (SyncState × Fin 9 × Bool × Frame) := (nx (step s)).map seq

/-- One row, seen at the output lines. -/
def execOut (i : Instr) (s : State) : Option Outputs := (nx (exec i s)).map (·.out)

/-- One row, seen at the Telemetry State. -/
def execTlm (i : Instr) (s : State) : Option Telemetry := (nx (exec i s)).map (·.tlm)

/-- One step, seen at the Telemetry State. -/
def stepTlm (s : State) : Option Telemetry := (nx (step s)).map (·.tlm)

/-- The reset state under the given altitude source, with `altitude = 7` (V-TLM-6, V-TLM-8). -/
def alt7 (src : AltSrc) : State :=
  { State.reset with
    tlm := { Telemetry.reset with altitude := 7 }, params := { Params.default with altSrc := src } }

/-! ## WellFormed refuses -/

theorem test_wf_refuses_byte_rows :
    (Instr.idleOther 0x7E).wellFormed Params.default = false ∧
    (Instr.inFrameData 0x7E).wellFormed Params.default = false ∧
    (Instr.inFrameData 0x7D).wellFormed Params.default = false ∧
    (Instr.escapedData 0x7E).wellFormed Params.default = false := by decide

/-- CLASS1.SWR when SWR_ID is RSSI_ID, which takes its frames first. -/
theorem test_wf_refuses_dead_swr :
    Instr.class1Swr.wellFormed { Params.default with swrId := 0xF101 } = false := by decide

/-- Class 2 and its rows when class 1 takes the identifier first (R120). -/
theorem test_wf_refuses_shadowed_hub :
    (Instr.class2Hub 0x12 0).wellFormed { Params.default with rssiId := 0x0012 } = false ∧
    (Instr.hubAboveLast 0x40).wellFormed { Params.default with rssiId := 0x0040 } = false ∧
    (Instr.hubOther 0x02).wellFormed { Params.default with swrId := 0x0002 } = false ∧
    (Instr.hubBaroAltAp 0).wellFormed { Params.default with rssiId := 0x0021 } = false ∧
    (Instr.hubGpsAltAp 0).wellFormed { Params.default with rssiId := 0x0009 } = false ∧
    (Instr.hubGpsLongBp 0).wellFormed { Params.default with rssiId := 0x0012 } = false ∧
    (Instr.hubGpsLongAp 0).wellFormed { Params.default with rssiId := 0x001A } = false ∧
    (Instr.hubGpsLatBp 0).wellFormed { Params.default with swrId := 0x0013 } = false ∧
    (Instr.hubGpsLatAp 0).wellFormed { Params.default with swrId := 0x001B } = false ∧
    (Instr.hubGpsLongEw 0).wellFormed { Params.default with swrId := 0x0022 } = false ∧
    (Instr.hubGpsLatNs 0).wellFormed { Params.default with swrId := 0x0023 } = false := by decide

/-- HUB.ABOVE_LAST at the last identifier; HUB.OTHER above it, and for one of the eight. -/
theorem test_wf_refuses_hub_range :
    (Instr.hubAboveLast 0x3F).wellFormed Params.default = false ∧
    (Instr.hubOther 0x40).wellFormed Params.default = false ∧
    (Instr.hubOther 0x12).wellFormed Params.default = false := by decide

theorem test_wf_refuses_class3 :
    (Instr.class3AltFirst 0).wellFormed { Params.default with altFirstId := 0xF101 } = false := by decide

theorem test_wf_refuses_class4 :
    (Instr.class4Other 0xF105).wellFormed Params.default = false ∧
    (Instr.class4Other 0x0040).wellFormed Params.default = false ∧
    (Instr.class4Other 0x0100).wellFormed Params.default = false := by decide

theorem test_wf_refuses_data_frame : (Instr.frameNotData 0x10).wellFormed Params.default = false := by decide

/-- The constraints of R117: two equal Hub identifiers; one above HUB_LAST_ID; an ALT_FIRST_ID with a zero high byte. -/
theorem test_params_refused :
    Params.ok { Params.default with gpsLatBpId := 0x12 } = false ∧
    Params.ok { Params.default with gpsLatNsId := 0x40 } = false ∧
    Params.ok { Params.default with altFirstId := 0x00FF } = false ∧
    Params.ok Params.default = true := by decide

/-! ## Decoding -/

/-- The byte rows, from the table of R53. -/
theorem test_decode_bytes :
    decode Params.default (.byte .idle 0b01111110) = .idleDelim ∧
    decode Params.default (.byte .idle 0b01010101) = .idleOther 0x55 ∧
    decode Params.default (.byte .inFrame 0b01111110) = .inFrameDelim ∧
    decode Params.default (.byte .inFrame 0b01111101) = .inFrameEsc ∧
    decode Params.default (.byte .inFrame 0b00100000) = .inFrameData 0x20 ∧
    decode Params.default (.byte .escaped 0b01111110) = .escapedDelim ∧
    decode Params.default (.byte .escaped 0b01011110) = .escapedData 0x5E := by decide

/-- The event rows, by their conditions (R58). -/
theorem test_decode_events :
    decode Params.default .ninthStore = .complete ∧ decode Params.default .noByte = .noByte ∧
    decode Params.default .rst = .reset ∧ decode Params.default (.view .check) = .check ∧
    decode Params.default (.view .dataId) = .parseDataId ∧ decode Params.default (.view .prim) = .parsePrim ∧
    decode Params.default (.view .appId) = .parseAppId ∧ decode Params.default (.view .value16) = .parseValue16 ∧
    decode Params.default (.view .value32) = .parseValue32 ∧ decode Params.default (.view .trailer) = .parseTrailer ∧
    decode Params.default (.view .isDataFrame) = .parseIsDataFrame ∧
    decode Params.default (.view .isLegacy) = .parseIsLegacy := by decide

/-- The two group rows: V-P1's frame at the gate, V-PARSE-8's at its class. -/
theorem test_decode_groups :
    decode Params.default (.gate #v[0x1B, 0x10, 0x00, 0x01, 0x64, 0x00, 0x00, 0x00, 0x8A]) = .dispatch 0x0100 0x64 ∧
    decode Params.default (.classed #v[0x1B, 0x10, 0x1A, 0x00, 0x34, 0x12, 0x00, 0x00, 0x8F]) =
      .class2Hub 0x1A 0x1234 := by decide

/-- The leaf rows, from the destuffed frames of V-TLM-1, V-TLM-2, V-TLM-4, V-TLM-4b, V-TLM-9, V-TLM-7, V-P8 D, V-PARSE-8, V-P7 B, V-P7 C, V-TLM-13, V-P7 D, V-TLM-10b, V-TLM-3, V-TLM-12. -/
theorem test_decode_frames :
    decodeFrameBytes Params.default [0x1B, 0x10, 0x01, 0xF1, 0x55, 0x00, 0x00, 0x00, 0xA7] = .ok (.class1Rssi) ∧
    decodeFrameBytes Params.default [0x1B, 0x10, 0x05, 0xF1, 0x00, 0x00, 0x00, 0x00, 0xF8] = .ok (.class1Swr) ∧
    decodeFrameBytes Params.default [0x1B, 0x10, 0x40, 0x00, 0x07, 0x00, 0x00, 0x00, 0xA8] = .ok (.hubAboveLast 0x40) ∧
    decodeFrameBytes Params.default [0x1B, 0x10, 0x02, 0x00, 0x07, 0x00, 0x00, 0x00, 0xE6] = .ok (.hubOther 0x02) ∧
    decodeFrameBytes Params.default [0x1B, 0x10, 0x21, 0x00, 0x48, 0x01, 0x00, 0x00, 0x85] = .ok (.hubBaroAltAp 328) ∧
    decodeFrameBytes Params.default [0x1B, 0x10, 0x09, 0x00, 0x50, 0x00, 0x00, 0x00, 0x96] = .ok (.hubGpsAltAp 80) ∧
    decodeFrameBytes Params.default [0x1B, 0x10, 0x12, 0x00, 0x0D, 0x00, 0x00, 0x00, 0xD0] = .ok (.hubGpsLongBp 13) ∧
    decodeFrameBytes Params.default [0x1B, 0x10, 0x1A, 0x00, 0x34, 0x12, 0x00, 0x00, 0x8F] = .ok (.hubGpsLongAp 0x1234) ∧
    decodeFrameBytes Params.default [0x1B, 0x10, 0x13, 0x00, 0x34, 0x00, 0x00, 0x00, 0xA8] = .ok (.hubGpsLatBp 52) ∧
    decodeFrameBytes Params.default [0x1B, 0x10, 0x1B, 0x00, 0x17, 0x08, 0x00, 0x00, 0xB5] = .ok (.hubGpsLatAp 2071) ∧
    decodeFrameBytes Params.default [0x1B, 0x10, 0x22, 0x00, 0x45, 0x00, 0x00, 0x00, 0x88] = .ok (.hubGpsLongEw 0x45) ∧
    decodeFrameBytes Params.default [0x1B, 0x10, 0x23, 0x00, 0x53, 0x00, 0x00, 0x00, 0x79] = .ok (.hubGpsLatNs 0x53) ∧
    decodeFrameBytes Params.default [0x1B, 0x10, 0x00, 0x01, 0xFB, 0xFF, 0xFF, 0xFF, 0xF2] = .ok (.class3AltFirst 0xFFFFFFFB) ∧
    decodeFrameBytes Params.default [0x1B, 0x10, 0x00, 0x02, 0x07, 0x00, 0x00, 0x00, 0xE6] = .ok (.class4Other 0x0200) ∧
    decodeFrameBytes Params.default [0x1B, 0x32, 0x13, 0x00, 0x34, 0x00, 0x00, 0x00, 0x86] = .ok (.frameNotData 0x32) := by
  decide

/-- Eight bytes and ten bytes are no frame (R49). -/
theorem test_decode_rejects_by_name :
    decodeFrameBytes Params.default [1, 2, 3, 4, 5, 6, 7, 8] = .error (.frameLength 8) ∧
    decodeFrameBytes Params.default [1, 2, 3, 4, 5, 6, 7, 8, 9, 10] = .error (.frameLength 10) := by decide

/-- Table words, as the table's `match` column has them (R58; log entry 9 for the state a byte is read in). -/
theorem test_table_words :
    decodeTableWord 8 0x7E = some .idleDelim ∧ decodeTableWord 8 0x7D = some .inFrameEsc ∧
    decodeTableWord 16 0x1000 = some (.dispatch 0 0) ∧
    decodeTableWord 72 0x000000000000211000 = some (.hubBaroAltAp 0) ∧
    decodeTableWord 72 0x0000000000F1011000 = some .class1Rssi ∧
    decodeTableWord 72 0x000000000001001000 = some (.class3AltFirst 0) ∧ decodeTableWord 0 0 = none := by decide

/-- The sender: MKFRAME's example of R57, and V-P2's frame, stuffed. -/
theorem test_wire :
    wire (mkFrame 0x00 0x10 0x0021 0x00000050) = [0x7E, 0x00, 0x10, 0x21, 0x00, 0x50, 0x00, 0x00, 0x00, 0x7D, 0x5E] ∧
    wire #v[0x7E, 0x10, 0x7D, 0x00, 0x7E, 0x7D, 0x00, 0x00, 0x76] =
      [0x7E, 0x7D, 0x5E, 0x10, 0x7D, 0x5D, 0x00, 0x7D, 0x5E, 0x7D, 0x5D, 0x00, 0x00, 0x76] := by decide

/-- The trailer vectors of section 2.2. -/
theorem test_trailer :
    trailerFor [0x10, 0x00, 0x01, 0x64, 0x00, 0x00, 0x00] = 0x8A ∧
    trailerFor [0x10, 0xEF, 0x00, 0x00, 0x00, 0x00, 0x00] = 0x00 ∧
    trailerFor [0x00, 0x00, 0x00, 0x00, 0x00, 0x00, 0x00] = 0xFF ∧
    trailerFor [0x10, 0x7D, 0x00, 0x7E, 0x7D, 0x00, 0x00] = 0x76 := by decide

/-! ## SYNC's rows, one step each -/

/-- V-SYNC-1. -/
theorem test_idle_delim : stepSeq (mk .idle 0 junk [Input.byte 0x7E]) = some (.inFrame, 0, false, junk) := by decide

/-- V-SYNC-3: an escape marker in IDLE does not arm the destuffer. -/
theorem test_idle_other : stepSeq (mk .idle 0 junk [Input.byte 0x7D]) = some (.idle, 0, false, junk) := by decide

/-- V-SYNC-6. -/
theorem test_in_frame_delim : stepSeq (mk .inFrame 5 junk [Input.byte 0x7E]) = some (.inFrame, 0, false, junk) := by
  decide

/-- V-SYNC-24: an escape marker never completes a frame. -/
theorem test_in_frame_esc : stepSeq (mk .inFrame 8 junk [Input.byte 0x7D]) = some (.escaped, 8, false, junk) := by
  decide

/-- V-SYNC-10: no XOR outside an escape. -/
theorem test_in_frame_data :
    stepSeq (mk .inFrame 4 junk [Input.byte 0x5E]) =
      some (.inFrame, 5, false, #v[0xA1, 0xA2, 0xA3, 0xA4, 0x5E, 0xA6, 0xA7, 0xA8, 0xA9]) := by decide

/-- V-SYNC-12. -/
theorem test_complete :
    stepSeq (mk .inFrame 8 junk [Input.byte 0x8A]) =
      some (.idle, 0, true, #v[0xA1, 0xA2, 0xA3, 0xA4, 0xA5, 0xA6, 0xA7, 0xA8, 0x8A]) := by decide

/-- V-SYNC-20: `0x5E` is not stored. -/
theorem test_escaped_delim : stepSeq (mk .escaped 2 junk [Input.byte 0x7E]) = some (.inFrame, 0, false, junk) := by
  decide

/-- V-SYNC-15: not a second prefix. -/
theorem test_escaped_esc_is_data :
    stepSeq (mk .escaped 2 junk [Input.byte 0x7D]) =
      some (.inFrame, 3, false, #v[0xA1, 0xA2, 0x5D, 0xA4, 0xA5, 0xA6, 0xA7, 0xA8, 0xA9]) := by decide

/-- V-SYNC-22: COMPLETE overrides the write of `st`. -/
theorem test_escaped_data_completes :
    stepSeq (mk .escaped 8 junk [Input.byte 0x5E]) =
      some (.idle, 0, true, #v[0xA1, 0xA2, 0xA3, 0xA4, 0xA5, 0xA6, 0xA7, 0xA8, 0x7E]) := by decide

/-- V-SYNC-25, one of its cycles. -/
theorem test_no_byte : stepSeq (mk .escaped 4 junk [Input.none]) = some (.escaped, 4, false, junk) := by decide

/-- V-SYNC-26, with nothing pending at all. -/
theorem test_no_byte_ends_the_strobe : stepSeq (shown junk) = some (.idle, 0, false, junk) := by decide

/-- V-RST-1: the byte is lost. -/
theorem test_reset_beats_byte :
    stepSeq (mk .escaped 5 junk [⟨true, some 0x5E⟩]) = some (.idle, 0, false, junk) := by decide

/-- V-RST-2: the frame is suppressed. -/
theorem test_reset_suppresses_frame :
    stepSeq (mk .inFrame 8 junk [⟨true, some 0x8A⟩]) = some (.idle, 0, false, junk) := by decide

/-! ## CHK and PARSE -/

/-- V-CHK-8, a carry in the middle; V-CHK-2, all zero is not valid. -/
theorem test_check :
    ((execOut .check (shown #v[0x00, 0x80, 0x80, 0x00, 0x00, 0x00, 0x00, 0x00, 0xFE])).map
      fun o => (o.chkAcc, o.chkOk, o.frameOk, o.frameErr)) = some (0xFF, true, true, false) ∧
    ((execOut .check (shown #v[0x1B, 0x00, 0x00, 0x00, 0x00, 0x00, 0x00, 0x00, 0x00])).map
      fun o => (o.chkAcc, o.chkOk, o.frameOk, o.frameErr)) = some (0x00, false, false, true) := by decide

/-- V-CHK-7, V-CHK-3 and V-CHK-16. -/
theorem test_chk_acc :
    chkAccOf #v[0x00, 0xFF, 0x01, 0x00, 0x00, 0x00, 0x00, 0x00, 0x00] = 0x01 ∧
    chkAccOf #v[0x1B, 0xFF, 0xFF, 0xFF, 0xFF, 0xFF, 0xFF, 0xFF, 0xFF] = 0xFF ∧
    chkAccOf #v[0x1B, 0x10, 0x00, 0x64, 0x01, 0x00, 0x00, 0x00, 0x8A] = 0xFF := by decide

/-- The frame of V-PARSE-2. -/
def parse2 : Frame := #v[0x7E, 0x10, 0x7D, 0x00, 0x7E, 0x7D, 0x00, 0x00, 0x76]

theorem test_parse_data_id : (execOut .parseDataId (shown parse2)).map (·.fDataId) = some 0x7E := by decide
theorem test_parse_prim : (execOut .parsePrim (shown parse2)).map (·.fPrim) = some 0x10 := by decide
theorem test_parse_app_id : (execOut .parseAppId (shown parse2)).map (·.fAppId) = some 0x007D := by decide
theorem test_parse_value16 : (execOut .parseValue16 (shown parse2)).map (·.fValue16) = some 0x7D7E := by decide

/-- V-PARSE-7: the low half agrees with the 16-bit view. -/
theorem test_parse_value32 :
    (execOut .parseValue32 (shown #v[0x1B, 0x10, 0x00, 0x01, 0x00, 0x80, 0x01, 0x00, 0x6D])).map (·.fValue32) =
      some 0x00018000 := by decide
theorem test_parse_trailer : (execOut .parseTrailer (shown parse2)).map (·.fTrailer) = some 0x76 := by decide

/-- V-PARSE-5. -/
theorem test_parse_is_data_frame :
    (execOut .parseIsDataFrame (shown parse2)).map (·.isDataFrame) = some true ∧
    (execOut .parseIsDataFrame (shown #v[0x1B, 0x32, 0x13, 0x00, 0x34, 0x00, 0x00, 0x00, 0x86])).map (·.isDataFrame) =
      some false := by decide

/-- V-PARSE-2 and V-PARSE-3. -/
theorem test_parse_is_legacy :
    ((execOut .parseIsLegacy (shown parse2)).map fun o => (o.isLegacy, o.hubId)) = some (true, 0x7D) ∧
    ((execOut .parseIsLegacy (shown #v[0x98, 0x10, 0x05, 0xF1, 0x00, 0x00, 0x00, 0x00, 0xF8])).map
      fun o => (o.isLegacy, o.hubId)) = some (false, 0x05) := by decide

/-! ## The annex -/

/-- V-TLM-13 as a step, the ninth byte arriving, and V-TLM-5 through the group row. -/
theorem test_dispatch :
    ((stepTlm (last #v[0x1B, 0x10, 0x22, 0x00, 0x45, 0x00, 0x00, 0x00, 0x88])).map
      fun t => (t.longitudeSign, t.hasLon, t.hasLat)) = some (.plus, true, false) ∧
    (execTlm (.dispatch 0x0021 80) State.reset).map (·.altitude) = some 8000 := by decide

/-- V-TLM-12. -/
theorem test_frame_not_data :
    stepTlm (last #v[0x1B, 0x32, 0x13, 0x00, 0x34, 0x00, 0x00, 0x00, 0x86]) = some Telemetry.reset := by decide

/-- V-TLM-1, V-TLM-2. -/
theorem test_class1_rssi : execTlm .class1Rssi (alt7 .gps) = some (alt7 .gps).tlm := by decide
theorem test_class1_swr : execTlm .class1Swr (alt7 .gps) = some (alt7 .gps).tlm := by decide

/-- The example of R122: `HUB(T, 0x12, 52)`. -/
theorem test_class2_hub :
    (execTlm (.class2Hub 0x12 52) State.reset).map (fun t => (t.lonBP, t.hasFix)) = some (52, true) := by decide

/-- V-TLM-4, and V-TLM-4b. -/
theorem test_hub_above_last :
    execTlm (.hubAboveLast 0x40) (alt7 .vario) = some (alt7 .vario).tlm ∧
    execTlm (.class2Hub 0x40 7) (alt7 .vario) = some (alt7 .vario).tlm := by decide
theorem test_hub_other : execTlm (.hubOther 0x02) (alt7 .vario) = some (alt7 .vario).tlm := by decide

/-- V-TLM-9: 32800 wraps to -32736. V-TLM-6: nothing under GPS. -/
theorem test_baro_alt :
    (execTlm (.hubBaroAltAp 328) (alt7 .vario)).map (·.altitude.toInt) = some (-32736) ∧
    (execTlm (.hubBaroAltAp 80) (alt7 .gps)).map (·.altitude) = some 7 := by decide

/-- V-TLM-7, V-TLM-8. -/
theorem test_gps_alt :
    (execTlm (.hubGpsAltAp 80) (alt7 .gps)).map (·.altitude) = some 80 ∧
    (execTlm (.hubGpsAltAp 80) (alt7 .vario)).map (·.altitude) = some 7 := by decide

/-- The examples of R127: 13, and 0 after a fix. -/
theorem test_long_bp :
    (execTlm (.hubGpsLongBp 13) State.reset).map (fun t => (t.lonBP, t.hasFix)) = some (13, true) ∧
    (execTlm (.hubGpsLongBp 0) { State.reset with tlm := { Telemetry.reset with latBP := 52, hasFix := true } }).map
      (fun t => (t.lonBP, t.latBP, t.hasFix)) = some (0, 52, false) := by decide

/-- V-TLM-15. -/
theorem test_long_ap :
    (execTlm (.hubGpsLongAp 0x1234) State.reset).map (fun t => (t.lonAP, t.hasFix)) = some (4660, false) := by decide

/-- The example of R129. -/
theorem test_lat_bp :
    (execTlm (.hubGpsLatBp 52) State.reset).map (fun t => (t.latBP, t.lonBP, t.hasFix)) = some (52, 0, true) := by decide

/-- The example of R130. -/
theorem test_lat_ap : (execTlm (.hubGpsLatAp 0x0817) State.reset).map (·.latAP) = some 2071 := by decide

/-- V-TLM-13, and `0x0145` of V-TLM-14: all 16 bits are compared. -/
theorem test_long_ew :
    (execTlm (.hubGpsLongEw 0x0045) State.reset).map (fun t => (t.longitudeSign.toInt, t.hasLon)) = some (1, true) ∧
    (execTlm (.hubGpsLongEw 0x0145) State.reset).map (fun t => (t.longitudeSign.toInt, t.hasLon)) =
      some (-1, true) := by decide

/-- The examples of R132: `'N'` and `'S'`. -/
theorem test_lat_ns :
    (execTlm (.hubGpsLatNs 0x004E) State.reset).map (fun t => (t.latitudeSign.toInt, t.hasLat)) = some (1, true) ∧
    (execTlm (.hubGpsLatNs 0x0053) State.reset).map (fun t => (t.latitudeSign.toInt, t.hasLat)) =
      some (-1, true) := by decide

/-- V-TLM-10b and V-TLM-10c. -/
theorem test_class3 :
    (execTlm (.class3AltFirst 0xFFFFFFFB) (alt7 .gps)).map (·.altitude.toInt) = some (-5) ∧
    (execTlm (.class3AltFirst 0x00018000) (alt7 .vario)).map (·.altitude.toInt) = some (-32768) := by decide

/-- V-TLM-3. -/
theorem test_class4 : execTlm (.class4Other 0x0200) (alt7 .gps) = some (alt7 .gps).tlm := by decide

/-- V-TLM-11: a wrong trailer, `chk_acc = 01`, is reported and changes no telemetry. -/
theorem test_invalid_checksum :
    ((nx (step (last #v[0x1B, 0x10, 0x13, 0x00, 0x34, 0x00, 0x00, 0x00, 0xA9]))).map
      fun s => (s.out.chkAcc, s.out.frameErr, s.out.frameOk, s.tlm.latBP)) = some (0x01, true, false, 0) := by decide

/-- V-P7 after frames C and D; an unknown hemisphere reads 0, and 2148 whole degrees wrap: 2148000000 - 2^32 (R135). -/
theorem test_accessors :
    (targetLatitude { State.reset with tlm := { Telemetry.reset with latitudeSign := .plus, latBP := 52, latAP := 2071 } }).toInt
      = 52002071 ∧
    (targetLatitude { State.reset with tlm := { Telemetry.reset with latitudeSign := .minus, latBP := 52, latAP := 2071 } }).toInt
      = -52002071 ∧
    (targetLongitude { State.reset with tlm := { Telemetry.reset with lonBP := 13, lonAP := 4660 } }).toInt = 0 ∧
    (targetLongitude { State.reset with tlm := { Telemetry.reset with longitudeSign := .plus, lonBP := 2148 } }).toInt
      = -2146967296 := by decide

/-! ## Witnesses: the hypotheses of each statement, met -/

/-- The frame of V-P7 B, GPS_LAT_BP with 52, and the same with its trailer's bit 0 inverted (V-P5). -/
def good : Frame := #v[0x1B, 0x10, 0x13, 0x00, 0x34, 0x00, 0x00, 0x00, 0xA8]
def bad : Frame := #v[0x1B, 0x10, 0x13, 0x00, 0x34, 0x00, 0x00, 0x00, 0xA9]

/-- The frame of V-P6 with an escaped trailer, BARO_ALT_AP with 80, and a bad one whose trailer is `0x7D`. -/
def goodEsc : Frame := #v[0x00, 0x10, 0x21, 0x00, 0x50, 0x00, 0x00, 0x00, 0x7E]
def badEsc : Frame := #v[0x00, 0x10, 0x21, 0x00, 0x50, 0x00, 0x00, 0x00, 0x7D]

/-- A state with eight bytes stored and an escape pending, `b` on the port. -/
def lastEsc (f : Frame) (b : Byte) : State := mk .escaped 8 (f.set 8 0) [Input.byte b]

/-- The invariant of a state, from its parts. -/
theorem inv_of {s : State}
    (h : (s.st = .idle → s.cnt = 0) ∧ (s.fv = true → s.st = .idle) ∧ s.out = outputsOf s.fv s.buf ∧ s.params.ok = true) :
    Inv s := ⟨h.1, h.2.1, h.2.2.1, h.2.2.2⟩

theorem test_witness_DecodeOfEncodeIsTheInstruction :
    Params.default.ok = true ∧ (Instr.inFrameData 0x7F).wellFormed Params.default = true ∧
    (Instr.hubOther 0x3F).wellFormed Params.default = true ∧ (Instr.hubAboveLast 0xFF).wellFormed Params.default = true ∧
    (Instr.class4Other 0xFFFF).wellFormed Params.default = true := by decide

theorem test_witness_OnlyNineBytesAreAFrame :
    ([1, 2, 3, 4, 5, 6, 7, 8] : List Byte).length ≠ 9 ∧ ([1, 2, 3, 4, 5, 6, 7, 8, 9, 10] : List Byte).length ≠ 9 ∧
    ([0x1B, 0x10, 0x13, 0x00, 0x34, 0x00, 0x00, 0x00, 0xA8] : List Byte) = good.toList := by decide

theorem test_witness_IdleDelimStartsAFrame : (mk .idle 0 junk []).st = .idle := by decide

theorem test_witness_IdleOtherDiscards :
    (0x7D : Byte) ≠ 0x7E ∧ (0x7F : Byte) ≠ 0x7E ∧ (mk .idle 0 junk []).st = .idle := by decide

theorem test_witness_InFrameDelimRestarts : (mk .inFrame 8 junk []).st = .inFrame := by decide

theorem test_witness_InFrameEscArmsTheDestuffer : (mk .inFrame 8 junk []).st = .inFrame := by decide

theorem test_witness_InFrameDataStores :
    (0x7C : Byte) ≠ 0x7E ∧ (0x7C : Byte) ≠ 0x7D ∧ (mk .inFrame 8 z []).st = .inFrame ∧ (mk .inFrame 7 z []).st = .inFrame ∧
    (mk .inFrame 7 z []).cnt.val < 8 ∧ (mk .inFrame 0 z []).cnt.val < 8 ∧ (mk .inFrame 8 z []).cnt.val = 8 := by decide

theorem test_witness_EscapedDelimRestarts : (mk .escaped 8 junk []).st = .escaped := by decide

theorem test_witness_EscapedDataDestuffs :
    (0x7D : Byte) ≠ 0x7E ∧ (mk .escaped 7 z []).st = .escaped ∧ (mk .escaped 8 z []).st = .escaped ∧ (mk .escaped 7 z []).cnt.val < 8 ∧ (mk .escaped 8 z []).cnt.val = 8 := by decide

/-- The largest accumulator and the largest byte: `0x1FE` folds to `0xFF`. -/
theorem test_witness_SecondFoldIsIdentity : 255 ≤ 255 ∧ chkAdd 255 0xFF = 255 ∧ chkAdd 255 0x01 = 1 := by decide

theorem test_witness_ChecksumCoversBytesOneToEight : (1 : Fin 9) ≠ 0 ∧ (8 : Fin 9) ≠ 0 := by decide

theorem test_witness_EverySingleBitErrorIsDetected :
    (8 : Fin 9) ≠ 0 ∧ 7 < 8 ∧ chkOkOf good = true := by decide

/-- V-CHK-1 and V-CHK-16: two summed bytes swapped. -/
theorem test_witness_ChecksumIgnoresOrder :
    (summedBytes #v[0x1B, 0x10, 0x00, 0x01, 0x64, 0x00, 0x00, 0x00, 0x8A]).Perm
      (summedBytes #v[0x1B, 0x10, 0x00, 0x64, 0x01, 0x00, 0x00, 0x00, 0x8A]) := by decide

theorem test_witness_ParseClassificationRows :
    isDataFrameOf #v[0x1B, 0x11, 0x13, 0x00, 0x34, 0x00, 0x00, 0x00, 0xA7] = false := by decide

theorem test_witness_DispatchGateAndOrder :
    primOf #v[0x1B, 0x32, 0x13, 0x00, 0x34, 0x00, 0x00, 0x00, 0x86] ≠ 0x10 ∧ primOf good = 0x10 := by decide

theorem test_witness_Class1AcceptedNoOps :
    appIdOf #v[0x1B, 0x10, 0x01, 0xF1, 0x55, 0x00, 0x00, 0x00, 0xA7] = Params.default.rssiId ∧
    appIdOf #v[0x1B, 0x10, 0x05, 0xF1, 0x00, 0x00, 0x00, 0x00, 0xF8] = Params.default.swrId ∧
    appIdOf #v[0x1B, 0x10, 0x05, 0xF1, 0x00, 0x00, 0x00, 0x00, 0xF8] ≠ Params.default.rssiId := by decide

/-- The last identifier and the one above it. -/
theorem test_witness_Class2HubRangeCut :
    (appIdOf good ≠ Params.default.rssiId ∧ appIdOf good ≠ Params.default.swrId ∧ highByte (appIdOf good) = 0) ∧
    State.reset.params.hubLastId < 0x40 ∧ ¬ State.reset.params.hubLastId < 0x3F := by decide

theorem test_witness_Class3StoresTheConvertedAltitude :
    (Params.default.isClass1 (appIdOf #v[0x1B, 0x10, 0x00, 0x01, 0x64, 0x00, 0x00, 0x00, 0x8A]) = false ∧
      highByte (appIdOf #v[0x1B, 0x10, 0x00, 0x01, 0x64, 0x00, 0x00, 0x00, 0x8A]) ≠ 0 ∧
      appIdOf #v[0x1B, 0x10, 0x00, 0x01, 0x64, 0x00, 0x00, 0x00, 0x8A] = Params.default.altFirstId) ∧
    State.reset.params.alt32 = .lowHalf ∧
    ({ State.reset with params := { Params.default with alt32 := .configured } } : State).params.alt32 = .configured := by
  decide

theorem test_witness_UnknownIdentifiersAreIgnored :
    (Params.default.isClass1 (appIdOf #v[0x1B, 0x10, 0x00, 0x02, 0x07, 0x00, 0x00, 0x00, 0xE6]) = false ∧
      highByte (appIdOf #v[0x1B, 0x10, 0x00, 0x02, 0x07, 0x00, 0x00, 0x00, 0xE6]) ≠ 0 ∧
      appIdOf #v[0x1B, 0x10, 0x00, 0x02, 0x07, 0x00, 0x00, 0x00, 0xE6] ≠ Params.default.altFirstId) ∧
    ¬ Params.default.hubLastId < 0x3F ∧ 0x3F ∉ Params.default.hubIds ∧ 0x40 ∉ Params.default.hubIds := by decide

theorem test_witness_AltitudeRows :
    State.reset.params.ok = true ∧ (alt7 .vario).params.altSrc = .vario ∧ (alt7 .gps).params.altSrc = .gps := by decide

theorem test_witness_BeforePointRows : State.reset.params.ok = true := by decide
theorem test_witness_AfterPointRows : (alt7 .gps).params.ok = true := by decide
theorem test_witness_HemisphereRows : (alt7 .vario).params.ok = true := by decide

theorem test_witness_RowsWriteOnlyTheFieldsTheyName :
    exec (.hubGpsLatBp 52) State.reset =
      .next { State.reset with tlm := { Telemetry.reset with latBP := 52, hasFix := true } } ∧
    TlmField.lonBP ∉ writes (.hubGpsLatBp 52) := ⟨rfl, by decide⟩

theorem test_witness_GroupRowsRefineToLeafRows : primOf good = 0x10 := by decide

/-- 2147 whole degrees, the largest that R135 calls exact, and no hemisphere marker. -/
theorem test_witness_AccessorsReadTheTelemetry :
    State.reset.params.apScale = 1 ∧ ({ Telemetry.reset with latBP := 2147, lonBP := 2147 } : Telemetry).latBP.toNat ≤ 2147 ∧
    ({ Telemetry.reset with latBP := 2147, lonBP := 2147 } : Telemetry).lonBP.toNat ≤ 2147 ∧
    State.reset.tlm.latitudeSign = .unknown ∧ State.reset.tlm.longitudeSign = .unknown := by decide

/-- A byte of eight bits, a gate word of nine and a leaf word of 72. -/
theorem test_witness_PlacedTableWordsRun :
    State.reset.params = Params.default ∧
    (decodeTableWord 8 0x7E = some .idleDelim ∧ 8 ≤ 8) ∧
    (decodeTableWord 9 0 = some (.frameNotData 0) ∧ 8 < 9) ∧
    (decodeTableWord 72 0x211000 = some (.hubBaroAltAp 0) ∧ 8 < 72) := by decide

theorem test_witness_StepKeepsTheInvariant :
    Inv (after (mk .idle 0 z [Input.byte 0x7E])) ∧
    step (mk .idle 0 z [Input.byte 0x7E]) = .next (after (mk .idle 0 z [Input.byte 0x7E])) ∧
    Inv (mk .idle 0 z [Input.byte 0x7E]) :=
  ⟨inv_of (by decide), rfl, inv_of (by decide)⟩

theorem test_witness_OutputsShowTheStateAfterTheStep : step (last good) = .next (after (last good)) := rfl

theorem test_witness_ResetStepBeatsTheByte : (currentInput (mk .inFrame 8 junk [⟨true, some 0x8A⟩])).rst = true := by
  decide

/-- A ninth byte in IN_FRAME that is no escape marker, and `0x7D` in ESCAPED: each changes the buffer. -/
theorem test_witness_StepFrame :
    step (last bad) = .next (after (last bad)) ∧ (0 : Fin 9) ≠ (last bad).cnt ∧ (after (last bad)).buf ≠ (last bad).buf ∧
    (last bad).st = .inFrame ∧
    step (mk .escaped 0 junk [Input.byte 0x7D]) = .next (after (mk .escaped 0 junk [Input.byte 0x7D])) ∧
    (after (mk .escaped 0 junk [Input.byte 0x7D])).buf ≠ junk :=
  ⟨rfl, by decide, by decide, by decide, rfl, by decide⟩

theorem test_witness_SyncLossIsSilent :
    (currentInput (mk .escaped 8 junk [Input.byte 0x7E]) = Input.byte 0x7E ∧ (mk .escaped 8 junk []).st ≠ .idle) ∧
    (currentInput (mk .idle 0 junk [Input.byte 0x7D]) = Input.byte 0x7D ∧ (mk .idle 0 junk []).st = .idle ∧
      (0x7D : Byte) ≠ 0x7E) := by decide

/-- The plain ninth byte `0xA9`, and the escaped `0x5D`, which is stored as `0x7D`. -/
theorem test_witness_InvalidChecksumIsReportedAndHarmless :
    (currentInput (last bad) = Input.byte 0xA9 ∧ (0xA9 : Byte) ≠ 0x7E ∧ (last bad).cnt.val = 8 ∧
      (last bad).st = .inFrame ∧ (0xA9 : Byte) ≠ 0x7D ∧ chkOkOf ((last bad).buf.set 8 0xA9) = false) ∧
    (currentInput (lastEsc badEsc 0x5D) = Input.byte 0x5D ∧ (0x5D : Byte) ≠ 0x7E ∧ (lastEsc badEsc 0x5D).cnt.val = 8 ∧
      (lastEsc badEsc 0x5D).st = .escaped ∧ chkOkOf ((lastEsc badEsc 0x5D).buf.set 8 (0x5D ^^^ 0x20)) = false) := by decide

/-- The plain ninth byte `0xA8`, and the escaped `0x5E`, which is stored as `0x7E`. -/
theorem test_witness_GoodFrameUpdatesTelemetryInTheSameStep :
    (currentInput (last good) = Input.byte 0xA8 ∧ (0xA8 : Byte) ≠ 0x7E ∧ (last good).cnt.val = 8 ∧
      (last good).st = .inFrame ∧ (0xA8 : Byte) ≠ 0x7D ∧ chkOkOf ((last good).buf.set 8 0xA8) = true) ∧
    (currentInput (lastEsc goodEsc 0x5E) = Input.byte 0x5E ∧ (0x5E : Byte) ≠ 0x7E ∧ (lastEsc goodEsc 0x5E).cnt.val = 8 ∧
      (lastEsc goodEsc 0x5E).st = .escaped ∧ chkOkOf ((lastEsc goodEsc 0x5E).buf.set 8 (0x5E ^^^ 0x20)) = true) := by decide

/-- A reset step and an accepted frame, each changing the Telemetry State. -/
theorem test_witness_TelemetryChangesOnlyByAcceptedDataFrames :
    (step (last good) = .next (after (last good)) ∧ (after (last good)).tlm ≠ (last good).tlm) ∧
    (step { alt7 .gps with inputs := [⟨true, none⟩] } = .next (after { alt7 .gps with inputs := [⟨true, none⟩] }) ∧
      (after { alt7 .gps with inputs := [⟨true, none⟩] }).tlm ≠ (alt7 .gps).tlm) :=
  ⟨⟨rfl, by decide⟩, ⟨rfl, by decide⟩⟩

/-- V-TLM-6's frame under GPS (its trailer escaped), V-TLM-8's under VARIO. -/
theorem test_witness_AltitudeSourceIsolation :
    (let s := { lastEsc goodEsc 0x5E with params := { Params.default with altSrc := .gps } }
     s.params.ok = true ∧ (currentInput s).rst = false ∧ step s = .next (after s) ∧ (after s).fv = true ∧
      (after s).out.isLegacy = true ∧ s.params.altSrc = .gps ∧ (after s).out.hubId = s.params.baroAltApId) ∧
    (let s := last #v[0x1B, 0x10, 0x09, 0x00, 0x50, 0x00, 0x00, 0x00, 0x96]
     s.params.ok = true ∧ (currentInput s).rst = false ∧ step s = .next (after s) ∧ (after s).fv = true ∧
      (after s).out.isLegacy = true ∧ s.params.altSrc = .vario ∧ (after s).out.hubId = s.params.gpsAltApId) :=
  ⟨⟨by decide, by decide, rfl, by decide, by decide, by decide, by decide⟩,
   ⟨by decide, by decide, rfl, by decide, by decide, by decide, by decide⟩⟩

/-- A southern and western position, kept through an empty cycle. -/
theorem test_witness_HemisphereFlagsStaySet :
    let s : State := { State.reset with
      tlm := { Telemetry.reset with hasLat := true, hasLon := true, latitudeSign := .minus, longitudeSign := .minus } }
    (currentInput s).rst = false ∧ step s = .next (after s) ∧ s.tlm.hasLat = true ∧ s.tlm.hasLon = true ∧
      s.tlm.latitudeSign ≠ .unknown ∧ s.tlm.longitudeSign ≠ .unknown :=
  ⟨by decide, rfl, by decide, by decide, by decide, by decide⟩

/-- The shortest gap and the longest that the statement speaks of. -/
theorem test_witness_TenStepsBetweenTwoFrames :
    Inv { shown good with out := outputsOf true good } ∧ (shown good).fv = true ∧
    (∃ t, run 1 { shown good with out := outputsOf true good } = .next t) ∧
    (∃ t, run 9 { shown good with out := outputsOf true good } = .next t) :=
  ⟨inv_of (by decide), by decide, ⟨_, rfl⟩, ⟨_, rfl⟩⟩

/-- Bodies that destuff to eight bytes, to nine, to ten, and to nine with an escape marker after them. -/
theorem test_witness_SynchronizerRefinesDestuff :
    (0x7E ∉ ([0x7D, 0x31, 2, 3, 4, 5, 6, 7, 8] : List Byte) ∧
      (destuff [0x7D, 0x31, 2, 3, 4, 5, 6, 7, 8]).length = 8) ∧
    (0x7E ∉ ([1, 2, 3, 4, 5, 6, 7, 8, 0x7D, 0x5E] : List Byte) ∧
      (destuff [1, 2, 3, 4, 5, 6, 7, 8, 0x7D, 0x5E]).length = 9 ∧
      escapePending [1, 2, 3, 4, 5, 6, 7, 8, 0x7D, 0x5E] = false) ∧
    (0x7E ∉ ([1, 2, 3, 4, 5, 6, 7, 8, 9, 10] : List Byte) ∧ 9 < (destuff [1, 2, 3, 4, 5, 6, 7, 8, 9, 10]).length) ∧
    (0x7E ∉ ([1, 2, 3, 4, 5, 6, 7, 8, 9, 0x7D] : List Byte) ∧ (destuff [1, 2, 3, 4, 5, 6, 7, 8, 9, 0x7D]).length = 9 ∧
      escapePending [1, 2, 3, 4, 5, 6, 7, 8, 9, 0x7D] = true) ∧
    (mk .escaped 5 junk (stream [0x7E, 1, 2])).inputs = stream (0x7E :: [1, 2]) ++ [] := by decide

theorem test_witness_DelimiterForgetsThePast :
    (mk .escaped 5 junk [Input.byte 0x7E, Input.none]).inputs = Input.byte 0x7E :: [Input.none] ∧
    (mk .idle 0 z [Input.byte 0x7E, Input.none]).inputs = Input.byte 0x7E :: [Input.none] := by decide

/-- A frame of plain bytes with two empty cycles in it. -/
theorem test_witness_NinePlainBytesMakeAFrame :
    let gap := Input.none
    let cycles := [Input.byte 1, gap, Input.byte 2, Input.byte 3, Input.byte 4, gap, Input.byte 5, Input.byte 6,
      Input.byte 7, Input.byte 8]
    (mk .escaped 5 junk (Input.byte 0x7E :: (cycles ++ [Input.byte 9]))).inputs =
      Input.byte 0x7E :: (cycles ++ Input.byte 9 :: []) ∧
    (∀ i ∈ cycles, i.rst = false) ∧
    cycles.filterMap (·.rx) ++ [9] = (#v[1, 2, 3, 4, 5, 6, 7, 8, 9] : Frame).toList ∧
    (∀ j : Fin 9, (#v[1, 2, 3, 4, 5, 6, 7, 8, 9] : Frame)[j] ≠ 0x7E ∧ (#v[1, 2, 3, 4, 5, 6, 7, 8, 9] : Frame)[j] ≠ 0x7D) := by
  decide

/-- A good frame and a bad one, each on the wire. -/
theorem test_witness_WireDeliversEveryFrame :
    ((mk .escaped 5 junk (stream (wire goodEsc))).inputs = stream (wire goodEsc) ++ [] ∧ chkOkOf goodEsc = true) ∧
    ((mk .inFrame 8 junk (stream (wire bad))).inputs = stream (wire bad) ++ [] ∧ chkOkOf bad = false) ∧
    1 ≤ 1 ∧ 1 < (wire bad).length := by decide

/-- A state with the invariant, and a stream that is one empty cycle, from which filtering takes every step. -/
theorem test_witness_EmptyCyclesChangeNothingButTheStrobe :
    Inv { shown good with out := outputsOf true good } ∧ [Input.none].filter (· != Input.none) = [] :=
  ⟨inv_of (by decide), by decide⟩

/-- One step that accepts a frame with `prim = 0x32`. -/
theorem test_witness_NoAcceptedDataFrameNoTelemetry :
    let s := last #v[0x1B, 0x32, 0x13, 0x00, 0x34, 0x00, 0x00, 0x00, 0x86]
    (∀ i ∈ s.inputs, i.rst = false) ∧ run 1 s = .next (after s) ∧
    ∀ k u, 1 ≤ k → k ≤ 1 → run k s = .next u → u.out.frameOk = true → u.out.isDataFrame = false := by
  refine ⟨by decide, rfl, fun k u h1 h2 h _ => ?_⟩
  obtain rfl : k = 1 := by omega
  have h : (after (last #v[0x1B, 0x32, 0x13, 0x00, 0x34, 0x00, 0x00, 0x00, 0x86])) = u := by
    injection h
  rw [← h]
  decide

end Sys2Proof.Tests
end

section
/-! The machine is total (`00_scope.md` R8): every row, every list of rows, every cycle and every run answers a next state. -/

namespace Sys2Proof.Machine

/-- The leaf row of a DATA_FRAME's operands writes the Telemetry State and nothing else: they are the operands of a frame. -/
theorem exec_decodeData_next (p : Params) (appId : Half) (value32 : Word) (s : State) :
    ∃ t, exec (decodeData p appId value32) s = .next (s.setTlm t) := by
  have hleaf : decodeFrame p (dataFrameOf appId value32) = decodeData p appId value32 := by
    simp [decodeFrame, dataFrameOf]
  rw [← hleaf]
  exact exec_decodeFrame_next p _ s

/-- A row answers a next state. The group rows do so because their leaf rows do, the two altitude rows under either altitude
source; the meaning of every other row is written as a next state. -/
theorem exec_next (i : Instr) (s : State) : ∃ t, exec i s = .next t := by
  cases i with
  | dispatch appId value32 =>
    obtain ⟨t, ht⟩ := exec_decodeData_next s.params appId value32 s
    exact ⟨_, (execDispatch_eq_leaf appId value32 s).trans ht⟩
  | class2Hub hubId value =>
    obtain ⟨t, ht⟩ := exec_decodeHub_next s.params hubId value s
    exact ⟨_, (execClass2Hub_eq_leaf hubId value s).trans ht⟩
  | hubBaroAltAp value =>
    simp only [exec, execHubBaroAltAp]
    cases s.params.altSrc <;> exact ⟨_, rfl⟩
  | hubGpsAltAp value =>
    simp only [exec, execHubGpsAltAp]
    cases s.params.altSrc <;> exact ⟨_, rfl⟩
  | _ => exact ⟨_, rfl⟩

/-- `andThen` of two parts that answer next states answers one. -/
theorem andThen_next_of_next {o : Host.Outcome State Fault Refusal} {k : State → Host.Outcome State Fault Refusal}
    (ho : ∃ s, o = .next s) (hk : ∀ s, ∃ t, k s = .next t) : ∃ t, andThen o k = .next t := by
  obtain ⟨s, rfl⟩ := ho
  exact hk s

/-- Rows run one after another answer a next state. -/
theorem runRows_next (is : List Instr) (s : State) : ∃ t, runRows exec is s = .next t := by
  induction is generalizing s with
  | nil => exact ⟨s, rfl⟩
  | cons i is ih => exact andThen_next_of_next (exec_next i s) ih

/-- A step answers a next state: SYNC's row does, then the frame rows, then the output rows. -/
theorem step_next (s : State) : ∃ t, step s = .next t :=
  andThen_next_of_next (exec_next (fetch s) s.consume) fun s1 =>
    andThen_next_of_next (runRows_next (frameRows s1) s1) (runRows_next outputRows)

/-- A run of any length answers a next state. -/
theorem run_next (k : Nat) (s : State) : ∃ t, Safety.run k s = .next t := by
  induction k generalizing s with
  | zero => exact ⟨s, run_zero s⟩
  | succ k ih =>
    obtain ⟨s1, hstep⟩ := step_next s
    rw [run_succ k hstep]
    exact ih s1

/-- Settles O39: totality of the rows, carried through the parts of a step and, by induction on the cycles, through a run. -/
theorem everyStepHasANextState : Obligations.EveryStepHasANextState :=
  ⟨exec_next, step_next, run_next⟩

end Sys2Proof.Machine
end

section
/-! The byte rows of the states IDLE and IN_FRAME (`40_synchronizer.md` R66 to R70): the byte that selects each, and the next state
it answers. -/

namespace Sys2Proof.Machine

section DecodeByte
variable (p : Params)

/-- IDLE makes one test, for the delimiter. -/
theorem decode_idle (b : Byte) :
    decode p (.byte .idle b) = if b = Config.delim then .idleDelim else .idleOther b := rfl

/-- IN_FRAME makes two tests, for the delimiter and then for the escape marker. -/
theorem decode_inFrame (b : Byte) :
    decode p (.byte .inFrame b) =
      if b = Config.delim then .inFrameDelim else if b = Config.esc then .inFrameEsc else .inFrameData b := rfl

@[simp] theorem decode_idle_delim : decode p (.byte .idle Config.delim) = .idleDelim := by
  rw [decode_idle, if_pos rfl]

@[simp] theorem decode_inFrame_delim : decode p (.byte .inFrame Config.delim) = .inFrameDelim := by
  rw [decode_inFrame, if_pos rfl]

@[simp] theorem decode_inFrame_esc : decode p (.byte .inFrame Config.esc) = .inFrameEsc := by
  have esc_ne_delim : Config.esc ≠ Config.delim := by decide
  rw [decode_inFrame, if_neg esc_ne_delim, if_pos rfl]

/-- In IDLE whatever is no delimiter, the escape marker included, is another byte. -/
theorem decode_idle_of_ne {b : Byte} (hdelim : b ≠ Config.delim) : decode p (.byte .idle b) = .idleOther b := by
  rw [decode_idle, if_neg hdelim]

/-- IN_FRAME takes for data what passes both of its tests. -/
theorem decode_inFrame_of_ne {b : Byte} (hdelim : b ≠ Config.delim) (hesc : b ≠ Config.esc) :
    decode p (.byte .inFrame b) = .inFrameData b := by
  rw [decode_inFrame, if_neg hdelim, if_neg hesc]

end DecodeByte

section ExecByte
variable (s : State)

/-- The rows of SYNC that store nothing write the sequencing state and the strobe alone. -/
theorem exec_idleDelim : exec .idleDelim s = .next (s.setSync .inFrame 0 false) := rfl
theorem exec_idleOther (b : Byte) : exec (.idleOther b) s = .next (s.setSync s.st s.cnt false) := rfl
theorem exec_inFrameDelim : exec .inFrameDelim s = .next (s.setSync s.st 0 false) := rfl
theorem exec_inFrameEsc : exec .inFrameEsc s = .next (s.setSync .escaped s.cnt false) := rfl

/-- IN_FRAME.DATA is the counted store of the wire byte itself. -/
theorem exec_inFrameData (b : Byte) : exec (.inFrameData b) s = .next (storeCounted b s) := rfl

/-- COMPLETE always answers the completed frame. -/
theorem exec_complete : exec .complete s = .next (completeFrame s) := rfl

end ExecByte

section StoreCounted
variable (b : Byte) {s : State}

/-- Below the ninth byte the count goes up by one: the addition in `Fin 9` does not wrap round. -/
theorem storeCounted_count_up (h : s.cnt.val < 8) :
    storeCounted b s =
      { s with buf := s.buf.set s.cnt.val b s.cnt.isLt, cnt := s.cnt + 1, fv := false } := by
  have hcnt : (s.cnt + 1).val = s.cnt.val + 1 := Fin.val_add_one_of_lt' (Nat.succ_lt_succ h)
  rw [storeCounted_of_lt b s h]
  congr 1
  exact Fin.ext hcnt.symm

/-- The ninth store is COMPLETE, run on the state in which the byte is stored. -/
theorem next_storeCounted_eq_complete (h : s.cnt.val = 8) :
    .next (storeCounted b s) = exec .complete { s with buf := s.buf.set s.cnt.val b s.cnt.isLt } := by
  rw [exec_complete, completeFrame_eq, storeCounted_of_eq b s h]

end StoreCounted

/-- Settles O6: the delimiter in IDLE opens a frame. -/
theorem idleDelimStartsAFrame : Obligations.IdleDelimStartsAFrame :=
  ⟨decode_idle_delim, fun s _ => exec_idleDelim s⟩

/-- Settles O7: what is no delimiter is discarded in IDLE, where `setSync` writes back the state and the count it read. -/
theorem idleOtherDiscards : Obligations.IdleOtherDiscards :=
  ⟨fun p _ hdelim => decode_idle_of_ne p hdelim, fun b s _ _ => exec_idleOther s b⟩

/-- Settles O8: a delimiter in IN_FRAME restarts the count. -/
theorem inFrameDelimRestarts : Obligations.InFrameDelimRestarts :=
  ⟨decode_inFrame_delim, fun s _ => exec_inFrameDelim s⟩

/-- Settles O9: the escape marker in IN_FRAME moves to ESCAPED, where the count and the buffer are as before. -/
theorem inFrameEscArmsTheDestuffer : Obligations.InFrameEscArmsTheDestuffer :=
  ⟨decode_inFrame_esc, fun s _ => exec_inFrameEsc s⟩

/-- Settles O10, by the two cases of the counted store: below the ninth byte, and at it. -/
theorem inFrameDataStores : Obligations.InFrameDataStores := by
  refine ⟨fun p _ hdelim hesc => decode_inFrame_of_ne p hdelim hesc, fun b s _ _ _ => ⟨fun hlt => ?_, fun heq => ?_⟩⟩
  · rw [exec_inFrameData, storeCounted_count_up b hlt]
  · rw [exec_inFrameData, next_storeCounted_eq_complete b heq]

end Sys2Proof.Machine
end

section
/-! The continuous rows of PARSE (`42_parser.md` R96 to R103): the line each row drives, the 16-bit views as numbers, and what the
classifications say of `appId`. -/

namespace Sys2Proof.Machine

section ParseRows
variable (s : State)

/-- Each row of PARSE writes its own output lines, with the field of the frame that the buffer holds, and nothing else. -/
theorem exec_parseDataId : exec .parseDataId s = .next (s.setOut { s.out with fDataId := dataIdOf s.buf }) := rfl
theorem exec_parsePrim : exec .parsePrim s = .next (s.setOut { s.out with fPrim := primOf s.buf }) := rfl
theorem exec_parseAppId : exec .parseAppId s = .next (s.setOut { s.out with fAppId := appIdOf s.buf }) := rfl
theorem exec_parseValue16 : exec .parseValue16 s = .next (s.setOut { s.out with fValue16 := value16Of s.buf }) := rfl
theorem exec_parseTrailer : exec .parseTrailer s = .next (s.setOut { s.out with fTrailer := trailerOf s.buf }) := rfl
theorem exec_parseIsDataFrame :
    exec .parseIsDataFrame s = .next (s.setOut { s.out with isDataFrame := isDataFrameOf s.buf }) := rfl
theorem exec_parseIsLegacy :
    exec .parseIsLegacy s = .next (s.setOut { s.out with isLegacy := isLegacyOf s.buf, hubId := hubIdOf s.buf }) := rfl

end ParseRows

section FrameFields
variable (f : Frame)

/-- The 16-bit fields are little-endian and cannot overflow (R98, R99). -/
theorem toNat_appIdOf : (appIdOf f).toNat = f[2].toNat + 256 * f[3].toNat := toNat_le16 _ _
theorem toNat_value16Of : (value16Of f).toNat = f[4].toNat + 256 * f[5].toNat := toNat_le16 _ _

/-- `appId` fits in its low byte exactly when its high byte, `buf[3]`, is zero (R103). -/
theorem byte3_eq_zero_iff_appIdOf_le : f[3] = 0x00 ↔ (appIdOf f).toNat ≤ 0x00FF := by
  have hzero : f[3] = 0x00 ↔ f[3].toNat = 0 := BitVec.toNat_inj.symm
  have hlow : f[2].toNat < 256 := f[2].isLt
  rw [hzero, toNat_appIdOf]
  omega

/-- `hub_id` is the low byte of `appId` (R103). -/
theorem hubIdOf_eq_lowByte : hubIdOf f = lowByte (appIdOf f) := (lowByte_le16 _ _).symm

variable {f}

/-- A frame that is not a DATA_FRAME does not pass the `prim` test (R102). -/
theorem decodeFrame_of_not_dataFrame (p : Params) (h : isDataFrameOf f = false) :
    decodeFrame p f = .frameNotData (primOf f) := by
  have hprim : primOf f ≠ Config.dataFrame := beq_eq_false_iff_ne.mp h
  rw [decodeFrame, if_neg hprim]

end FrameFields

/-- FRAME.NOT_DATA has no effect. -/
theorem exec_frameNotData (prim : Byte) (s : State) : exec (.frameNotData prim) s = .next s := rfl

/-- Settles O22: each row drives its line with its field, and the two 16-bit fields are the numbers R98 and R99 give. -/
theorem parseFieldRows : Obligations.ParseFieldRows := by
  refine ⟨fun p => ⟨rfl, rfl, rfl, rfl, rfl⟩, fun s => ⟨?dataId, ?prim, ?appId, ?value16, ?trailer⟩⟩
  case dataId => exact exec_parseDataId s
  case prim => exact exec_parsePrim s
  case appId => exact ⟨appIdOf s.buf, toNat_appIdOf s.buf, exec_parseAppId s⟩
  case value16 => exact ⟨value16Of s.buf, toNat_value16Of s.buf, exec_parseValue16 s⟩
  case trailer => exact exec_parseTrailer s

/-- Settles O24: the two rows drive their lines, a frame that is no DATA_FRAME is decoded to the row without effect, and `appId`
is read from the two bytes that `is_legacy` and `hub_id` are. -/
theorem parseClassificationRows : Obligations.ParseClassificationRows := by
  refine ⟨fun p => ⟨rfl, rfl⟩, fun p f s hnot => ?notData, fun s => ⟨?isDataFrame, ?isLegacy, ?appIdBound, ?hubId⟩⟩
  case notData =>
    calc exec (decodeFrame p f) s
      _ = exec (.frameNotData (primOf f)) s := by rw [decodeFrame_of_not_dataFrame p hnot]
      _ = .next s := exec_frameNotData _ s
  case isDataFrame => exact exec_parseIsDataFrame s
  case isLegacy => exact exec_parseIsLegacy s
  case appIdBound => exact byte3_eq_zero_iff_appIdOf_le s.buf
  case hubId => exact hubIdOf_eq_lowByte s.buf

end Sys2Proof.Machine
end

section
/-! The Telemetry State under each row (`43_telemetry_annex.md` R137): what a row leaves there is the state before, with the fields
its rule names overwritten. -/

namespace Sys2Proof.Machine

open Sys2Proof.Safety

/-- `t` with the fields `ks` overwritten by those of `u`. -/
def Telemetry.overwrite (t u : Telemetry) (ks : List TlmField) : Telemetry where
  altitude := if .altitude ∈ ks then u.altitude else t.altitude
  latitudeSign := if .latitudeSign ∈ ks then u.latitudeSign else t.latitudeSign
  longitudeSign := if .longitudeSign ∈ ks then u.longitudeSign else t.longitudeSign
  latBP := if .latBP ∈ ks then u.latBP else t.latBP
  latAP := if .latAP ∈ ks then u.latAP else t.latAP
  lonBP := if .lonBP ∈ ks then u.lonBP else t.lonBP
  lonAP := if .lonAP ∈ ks then u.lonAP else t.lonAP
  hasFix := if .hasFix ∈ ks then u.hasFix else t.hasFix
  hasLat := if .hasLat ∈ ks then u.hasLat else t.hasLat
  hasLon := if .hasLon ∈ ks then u.hasLon else t.hasLon

@[simp] theorem overwrite_nil (t u : Telemetry) : t.overwrite u [] = t := rfl

/-- Overwriting a field with the value it has changes nothing. -/
@[simp] theorem overwrite_self (t : Telemetry) (ks : List TlmField) : t.overwrite t ks = t := by
  simp [Telemetry.overwrite]

/-- A field that is not overwritten keeps its value. -/
theorem sameField_overwrite (t u : Telemetry) {ks : List TlmField} {k : TlmField} (hk : k ∉ ks) :
    sameField t (t.overwrite u ks) k := by
  cases k <;> exact (if_neg hk).symm

/-- A row overwrites the fields that `writes` lists. Most rows are written as such an update; the counted store and CHECK go through
the laws of their shared operation, and the altitude rows write nothing under the source that is not theirs. -/
theorem exec_tlm_eq_overwrite {i : Instr} {s t : State} (h : exec i s = .next t) :
    t.tlm = s.tlm.overwrite t.tlm (writes i) := by
  cases i with
  | inFrameData b =>
    cases h
    exact storeCounted_tlm b s
  | escapedData b =>
    cases h
    exact storeCounted_tlm _ _
  | check =>
    cases h
    rw [driveCheck_eq]; rfl
  | hubBaroAltAp value =>
    simp only [exec, execHubBaroAltAp] at h
    split at h <;> cases h
    · rfl
    · exact (overwrite_self _ _).symm
  | hubGpsAltAp value =>
    simp only [exec, execHubGpsAltAp] at h
    split at h <;> cases h
    · exact (overwrite_self _ _).symm
    · rfl
  | dispatch appId value32 => rfl
  | class2Hub hubId value => rfl
  | _ => cases h; rfl

/-- Settles O35: a field that is not overwritten keeps its value. -/
theorem rowsWriteOnlyTheFieldsTheyName : Obligations.RowsWriteOnlyTheFieldsTheyName := by
  intro i s t h k hk
  rw [exec_tlm_eq_overwrite h]
  exact sameField_overwrite s.tlm t.tlm hk

end Sys2Proof.Machine
end

section
/-! The class tests of a DATA_FRAME (`43_telemetry_annex.md` R120 to R122, R124): the class row each `appId` selects, and what the
group row DISPATCH does with it. -/

namespace Sys2Proof.Machine

section DecodeClass
variable {p : Params} {appId : Half} (value32 : Word)

/-- An `appId` outside class 1 is neither of its two identifiers. -/
theorem isClass1_eq_false_iff : p.isClass1 appId = false ↔ appId ≠ p.rssiId ∧ appId ≠ p.swrId := by
  simp [Params.isClass1]

/-- The five outcomes of the chain of tests, each under the tests before it. -/
theorem decodeClass_rssi (hrssi : appId = p.rssiId) : decodeClass p appId value32 = .class1Rssi := by
  rw [decodeClass, classify, if_pos hrssi]

theorem decodeClass_swr (hrssi : appId ≠ p.rssiId) (hswr : appId = p.swrId) :
    decodeClass p appId value32 = .class1Swr := by
  rw [decodeClass, classify, if_neg hrssi, if_pos hswr]

theorem decodeClass_hub (hclass1 : p.isClass1 appId = false) (hhigh : highByte appId = 0) :
    decodeClass p appId value32 = .class2Hub (lowByte appId) (lowHalf value32) := by
  obtain ⟨hrssi, hswr⟩ := isClass1_eq_false_iff.mp hclass1
  rw [decodeClass, classify, if_neg hrssi, if_neg hswr, if_pos hhigh]

theorem decodeClass_altFirst (hclass1 : p.isClass1 appId = false) (hhigh : highByte appId ≠ 0)
    (halt : appId = p.altFirstId) : decodeClass p appId value32 = .class3AltFirst value32 := by
  obtain ⟨hrssi, hswr⟩ := isClass1_eq_false_iff.mp hclass1
  rw [decodeClass, classify, if_neg hrssi, if_neg hswr, if_neg hhigh, if_pos halt]

theorem decodeClass_other (hclass1 : p.isClass1 appId = false) (hhigh : highByte appId ≠ 0)
    (halt : appId ≠ p.altFirstId) : decodeClass p appId value32 = .class4Other appId := by
  obtain ⟨hrssi, hswr⟩ := isClass1_eq_false_iff.mp hclass1
  rw [decodeClass, classify, if_neg hrssi, if_neg hswr, if_neg hhigh, if_neg halt]

end DecodeClass

section ClassRows
variable (s : State)

/-- The class rows that are accepted or ignored without effect. -/
theorem exec_class1Rssi : exec .class1Rssi s = .next s := rfl
theorem exec_class1Swr : exec .class1Swr s = .next s := rfl
theorem exec_class4Other (appId : Half) : exec (.class4Other appId) s = .next s := rfl

/-- Both rows of class 1 are without effect, whichever of its identifiers the `appId` is. -/
theorem exec_decodeClass_of_class1 {p : Params} {appId : Half} (value32 : Word)
    (h : appId = p.rssiId ∨ appId = p.swrId) : exec (decodeClass p appId value32) s = .next s := by
  by_cases hrssi : appId = p.rssiId
  · rw [decodeClass_rssi value32 hrssi, exec_class1Rssi]
  · rw [decodeClass_swr value32 hrssi (h.resolve_left hrssi), exec_class1Swr]

/-- DISPATCH runs the class row of its `appId`. -/
theorem exec_dispatch_eq_class (appId : Half) (value32 : Word) :
    exec (.dispatch appId value32) s = exec (decodeClass s.params appId value32) s := by
  simp only [exec, execDispatch, decodeClass]
  cases classify s.params appId <;> rfl

/-- DISPATCH as the chain of R120. -/
theorem exec_dispatch_eq_ite (appId : Half) (value32 : Word) :
    exec (.dispatch appId value32) s =
      if appId = s.params.rssiId ∨ appId = s.params.swrId then .next s
      else if highByte appId = 0 then exec (.class2Hub (lowByte appId) (lowHalf value32)) s
      else if appId = s.params.altFirstId then exec (.class3AltFirst value32) s
      else .next s := by
  rw [exec_dispatch_eq_class]
  by_cases h1 : appId = s.params.rssiId ∨ appId = s.params.swrId
  · rw [if_pos h1, exec_decodeClass_of_class1 s value32 h1]
  have hclass1 : s.params.isClass1 appId = false := isClass1_eq_false_iff.mpr (not_or.mp h1)
  rw [if_neg h1]
  split_ifs with hhigh halt
  · rw [decodeClass_hub value32 hclass1 hhigh]
  · rw [decodeClass_altFirst value32 hclass1 hhigh halt]
  · rw [decodeClass_other value32 hclass1 hhigh halt, exec_class4Other]

/-- DISPATCH writes the Telemetry State and nothing else, as the leaf row it reaches does. -/
theorem exec_dispatch_next (appId : Half) (value32 : Word) :
    ∃ t, exec (.dispatch appId value32) s = .next (s.setTlm t) := by
  obtain ⟨t, ht⟩ := exec_decodeData_next s.params appId value32 s
  exact ⟨t, (execDispatch_eq_leaf appId value32 s).trans ht⟩

end ClassRows

/-- Settles O25: the two sides of the gate, then DISPATCH as a chain of class rows. -/
theorem dispatchGateAndOrder : Obligations.DispatchGateAndOrder :=
  ⟨fun _ _ hprim => if_neg hprim, fun _ _ hprim => if_pos hprim, fun prim s => exec_frameNotData prim s,
    fun appId value32 s => ⟨exec_dispatch_next s appId value32, exec_dispatch_eq_ite s appId value32⟩⟩

/-- Settles O26: RSSI_ID is tested first, and both rows are without effect. -/
theorem class1AcceptedNoOps : Obligations.Class1AcceptedNoOps :=
  ⟨fun _ _ hrssi => decodeClass_rssi _ hrssi, fun _ _ hswr hrssi => decodeClass_swr _ hrssi hswr,
    fun s => ⟨exec_class1Rssi s, exec_class1Swr s⟩⟩

end Sys2Proof.Machine
end

section
/-! The Hub table (`43_telemetry_annex.md` R122, R125 to R134): the row each identifier selects, and the fields the row writes. -/

namespace Sys2Proof.Machine

section HubTable
variable {p : Params}

/-- The rows of the eight Hub identifiers, in the order of `Params.hubIds`. -/
def hubRows (value : Half) : List Instr :=
  [.hubBaroAltAp value, .hubGpsAltAp value, .hubGpsLongBp value, .hubGpsLongAp value,
   .hubGpsLatBp value, .hubGpsLatAp value, .hubGpsLongEw value, .hubGpsLatNs value]

/-- Looking a key up by its position in a list is a chain of tests along the list. -/
theorem getD_idxOf_cons {α β : Type} [DecidableEq α] (x a : α) (l : List α) (r : β) (rs : List β) (d : β) :
    (r :: rs).getD ((a :: l).idxOf x) d = if x = a then r else rs.getD (l.idxOf x) d := by
  by_cases h : x = a
  · subst h; simp
  · simp [List.idxOf_cons_ne _ (Ne.symm h), h]

/-- After the range test of R122 the table is searched by the position of the identifier. -/
theorem decodeHub_eq_getD (p : Params) (hubId : Byte) (value : Half) :
    decodeHub p hubId value =
      if p.hubLastId < hubId then .hubAboveLast hubId
      else (hubRows value).getD (p.hubIds.idxOf hubId) (.hubOther hubId) := by
  simp only [decodeHub, classifyHub, hubRows, Params.hubIds, getD_idxOf_cons]
  split_ifs <;> rfl

/-- With admissible parameters each of the eight identifiers selects its own row: none is above the last, and as they are
pairwise distinct each is found at its own position. -/
theorem decodeHub_of_getElem? (hok : p.ok = true) {i : Nat} {hubId : Byte} (hid : p.hubIds[i]? = some hubId)
    (value : Half) : decodeHub p hubId value = (hubRows value).getD i (.hubOther hubId) := by
  obtain ⟨hnodup, hle, -⟩ := (Params.ok_iff p).mp hok
  obtain ⟨hi, rfl⟩ := List.getElem?_eq_some_iff.mp hid
  rw [decodeHub_eq_getD, if_neg (hle _ (List.getElem_mem hi)), hnodup.idxOf_getElem]

/-- Above HUB_LAST_ID the range test takes every identifier. -/
theorem decodeHub_of_last_lt {hubId : Byte} (hlast : p.hubLastId < hubId) (value : Half) :
    decodeHub p hubId value = .hubAboveLast hubId := by
  rw [decodeHub_eq_getD, if_pos hlast]

/-- Up to HUB_LAST_ID what is not in the table is another identifier. -/
theorem decodeHub_of_notMem {hubId : Byte} (hlast : ¬ p.hubLastId < hubId) (hmem : hubId ∉ p.hubIds) (value : Half) :
    decodeHub p hubId value = .hubOther hubId := by
  rw [decodeHub, classifyHub_of_notMem hlast hmem]

end HubTable

section HubRows
variable (value : Half) (s : State)

/-- The two Hub rows without effect. -/
theorem exec_hubAboveLast (hubId : Byte) : exec (.hubAboveLast hubId) s = .next s := rfl
theorem exec_hubOther (hubId : Byte) : exec (.hubOther hubId) s = .next s := rfl

/-- The rows of the two coordinates: each writes the Telemetry State in the fields its rule names. -/
theorem exec_hubGpsLongBp :
    exec (.hubGpsLongBp value) s = .next (s.setTlm { s.tlm with lonBP := value, hasFix := value != 0 }) := rfl
theorem exec_hubGpsLatBp :
    exec (.hubGpsLatBp value) s = .next (s.setTlm { s.tlm with latBP := value, hasFix := value != 0 }) := rfl
theorem exec_hubGpsLongAp :
    exec (.hubGpsLongAp value) s = .next (s.setTlm { s.tlm with lonAP := value }) := rfl
theorem exec_hubGpsLatAp :
    exec (.hubGpsLatAp value) s = .next (s.setTlm { s.tlm with latAP := value }) := rfl
theorem exec_hubGpsLongEw :
    exec (.hubGpsLongEw value) s = .next (s.setTlm
      { s.tlm with longitudeSign := if value = Config.charE then .plus else .minus, hasLon := true }) := rfl
theorem exec_hubGpsLatNs :
    exec (.hubGpsLatNs value) s = .next (s.setTlm
      { s.tlm with latitudeSign := if value = Config.charN then .plus else .minus, hasLat := true }) := rfl

/-- The sign that a comparison chooses, as a number. -/
theorem toInt_ite_plus_minus (c : Prop) [Decidable c] :
    (if c then HemiSign.plus else HemiSign.minus).toInt = if c then 1 else -1 :=
  apply_ite HemiSign.toInt c _ _

/-- A Hub identifier outside the table is without effect, on either side of the range test. -/
theorem exec_decodeHub_of_notMem {p : Params} {hubId : Byte} (hmem : hubId ∉ p.hubIds) :
    exec (decodeHub p hubId value) s = .next s := by
  by_cases hlast : p.hubLastId < hubId
  · rw [decodeHub_of_last_lt hlast, exec_hubAboveLast]
  · rw [decodeHub_of_notMem hlast hmem, exec_hubOther]

/-- CLASS2.HUB runs the row of the table that its identifier selects. -/
theorem exec_class2Hub (hubId : Byte) :
    exec (.class2Hub hubId value) s = exec (decodeHub s.params hubId value) s :=
  execClass2Hub_eq_leaf hubId value s

end HubRows

/-- Settles O27: the group row runs the table's row, which above HUB_LAST_ID is the one without effect. -/
theorem class2HubRangeCut : Obligations.Class2HubRangeCut := by
  refine ⟨fun p f hrssi hswr hhigh => ?selected, fun hubId s => exec_hubAboveLast s hubId,
    fun hubId value s => ⟨?next, fun hlast => ⟨?ignored, decodeHub_of_last_lt hlast value⟩,
      fun _ => exec_class2Hub value s hubId⟩⟩
  case selected =>
    rw [← lowHalf_value32Of]
    exact decodeClass_hub _ (isClass1_eq_false_iff.mpr ⟨hrssi, hswr⟩) hhigh
  case next =>
    rw [exec_class2Hub]
    exact exec_decodeHub_next s.params hubId value s
  case ignored => rw [exec_class2Hub, decodeHub_of_last_lt hlast, exec_hubAboveLast]

/-- Settles O29: what no test takes falls to CLASS4.OTHER and HUB.OTHER, and the rows are without effect. -/
theorem unknownIdentifiersAreIgnored : Obligations.UnknownIdentifiersAreIgnored :=
  ⟨fun _ _ hclass1 hhigh halt => decodeClass_other _ hclass1 hhigh halt,
    fun _ _ value hlast hmem => decodeHub_of_notMem hlast hmem value,
    fun _ _ value s hmem => exec_decodeHub_of_notMem value s hmem,
    fun s => ⟨exec_class4Other s, exec_hubOther s⟩⟩

/-- Settles O31: the identifiers stand third and fifth in the table, and each row sets `hasFix` from its own degrees. -/
theorem beforePointRows : Obligations.BeforePointRows := fun value s =>
  ⟨fun hok => ⟨decodeHub_of_getElem? hok (i := 2) rfl value, decodeHub_of_getElem? hok (i := 4) rfl value⟩,
    exec_hubGpsLongBp value s, exec_hubGpsLatBp value s⟩

/-- Settles O32: the identifiers stand fourth and sixth in the table. -/
theorem afterPointRows : Obligations.AfterPointRows := fun value s =>
  ⟨fun hok => ⟨decodeHub_of_getElem? hok (i := 3) rfl value, decodeHub_of_getElem? hok (i := 5) rfl value⟩,
    exec_hubGpsLongAp value s, exec_hubGpsLatAp value s⟩

/-- Settles O33: the identifiers stand seventh and eighth in the table, and the sign is the one that the comparison with the
character code chooses. -/
theorem hemisphereRows : Obligations.HemisphereRows := fun value s =>
  ⟨fun hok => ⟨decodeHub_of_getElem? hok (i := 6) rfl value, decodeHub_of_getElem? hok (i := 7) rfl value⟩,
    ⟨_, toInt_ite_plus_minus (value = Config.charE), exec_hubGpsLongEw value s⟩,
    ⟨_, toInt_ite_plus_minus (value = Config.charN), exec_hubGpsLatNs value s⟩⟩

/-- Settles O34: the second row writes `hasFix` over the first row's, and neither writes the other's degrees. -/
theorem lastBeforePointUpdateWins : Obligations.LastBeforePointUpdateWins := by
  refine fun v w s => ⟨?latThenLon, ?lonThenLat⟩
  case latThenLon =>
    rw [exec_hubGpsLatBp, andThen_next, exec_hubGpsLongBp]
    exact ⟨_, rfl, rfl⟩
  case lonThenLat =>
    rw [exec_hubGpsLongBp, andThen_next, exec_hubGpsLatBp]
    exact ⟨_, rfl, rfl⟩

end Sys2Proof.Machine
end

section
/-! The one error and the silent losses (`60_exceptions.md` R146, R150), each a byte's step that runs no frame row: what
SYNC's row for the byte leaves, and the output lines driven from it. -/

namespace Sys2Proof.Machine

/-- ESCAPED makes one test, for the delimiter. -/
theorem decode_escaped (p : Params) (b : Byte) :
    decode p (.byte .escaped b) = if b = Config.delim then .escapedDelim else .escapedData b := rfl

@[simp] theorem decode_escaped_delim (p : Params) : decode p (.byte .escaped Config.delim) = .escapedDelim := by
  rw [decode_escaped, if_pos rfl]

/-- In ESCAPED whatever is no delimiter, the escape marker included, is data. -/
theorem decode_escaped_of_ne (p : Params) {b : Byte} (hdelim : b ≠ Config.delim) :
    decode p (.byte .escaped b) = .escapedData b := by
  rw [decode_escaped, if_neg hdelim]

/-- ESCAPED.DELIM writes the sequencing state and the strobe alone. -/
theorem exec_escapedDelim (s : State) : exec .escapedDelim s = .next (s.setSync .inFrame 0 false) := rfl

/-- ESCAPED.DATA is the counted store of the destuffed byte, with IN_FRAME as the state to go back to. -/
theorem exec_escapedData (b : Byte) (s : State) :
    exec (.escapedData b) s = .next (storeCounted (destuffed b) (s.setSync .inFrame s.cnt s.fv)) := rfl

section StepOfByte
variable {s : State} {b : Byte}

/-- A byte selects its row by the state it is met in. -/
theorem fetch_of_byte (hin : currentInput s = Input.byte b) : fetch s = decode s.params (.byte s.st b) := by
  rw [fetch, hin]; rfl

/-- A delimiter opens or restarts a frame in every state (R66, R68, R71). -/
theorem exec_fetch_of_delim (hin : currentInput s = Input.byte Config.delim) :
    exec (fetch s) s.consume = .next (s.consume.setSync .inFrame 0 false) := by
  rw [fetch_of_byte hin]
  cases hst : s.st with
  | idle => rw [decode_idle_delim, exec_idleDelim]
  | inFrame => rw [decode_inFrame_delim, exec_inFrameDelim, consume_st, hst]
  | escaped => rw [decode_escaped_delim, exec_escapedDelim]

/-- Any other byte met in IDLE is discarded, and only the strobe is written (R67). -/
theorem exec_fetch_of_idle (hin : currentInput s = Input.byte b) (hst : s.st = .idle) (hdelim : b ≠ Config.delim) :
    exec (fetch s) s.consume = .next (s.consume.setSync .idle s.cnt false) := by
  rw [fetch_of_byte hin, hst, decode_idle_of_ne _ hdelim, exec_idleOther, consume_st, consume_cnt, hst]

/-- The byte of the frame that a data byte `b` is, met in the state `st` (R70, R72). -/
def frameByte (st : SyncState) (b : Byte) : Byte := if st = .escaped then destuffed b else b

/-- A data byte met in a frame is stored as its byte of the frame, with IN_FRAME as the state after it unless it is the ninth. -/
theorem exec_fetch_of_data (hin : currentInput s = Input.byte b) (hdelim : b ≠ Config.delim)
    (hst : (s.st = .inFrame ∧ b ≠ Config.esc) ∨ s.st = .escaped) :
    exec (fetch s) s.consume = .next (storeCounted (frameByte s.st b) (s.consume.setSync .inFrame s.cnt s.fv)) := by
  rw [fetch_of_byte hin]
  obtain ⟨hst, hesc⟩ | hst := hst
  · have hback : s.consume.setSync .inFrame s.cnt s.fv = s.consume := by rw [← hst]; rfl
    rw [hback, hst, decode_inFrame_of_ne _ hdelim hesc, exec_inFrameData]
    rfl
  · rw [hst, decode_escaped_of_ne _ hdelim, exec_escapedData]
    rfl

/-- The ninth data byte is stored at index 8 and completes the frame (R70, R72, R73). -/
theorem exec_fetch_of_ninth (hin : currentInput s = Input.byte b) (hdelim : b ≠ Config.delim) (hcnt : s.cnt.val = 8)
    (hst : (s.st = .inFrame ∧ b ≠ Config.esc) ∨ s.st = .escaped) :
    exec (fetch s) s.consume =
      .next (completeFrame { s.consume with buf := s.buf.set 8 (frameByte s.st b) }) := by
  rw [exec_fetch_of_data hin hdelim hst, storeCounted_of_eq _ (s.consume.setSync .inFrame s.cnt s.fv) hcnt, completeFrame_eq]
  simp [hcnt, State.setSync]

/-- A step whose row of SYNC completes no good frame runs no frame row: it drives the output lines from what that row left. -/
theorem step_of_no_good_frame {s1 : State} (hrow : exec (fetch s) s.consume = .next s1)
    (hgood : ¬ (s1.fv = true ∧ chkOkOf s1.buf = true)) :
    step s = .next (s1.setOut (Safety.outputsOf s1.fv s1.buf)) := by
  rw [step, cycle, hrow, andThen_next, runRows_frameRows, if_neg hgood, andThen_next, runRows_outputRows]

/-- A step whose row of SYNC writes the sequencing state and no strobe shows the buffer as it was. -/
theorem step_of_no_strobe {st : SyncState} {n : Fin 9}
    (hrow : exec (fetch s) s.consume = .next (s.consume.setSync st n false)) :
    step s = .next ((s.consume.setSync st n false).setOut (Safety.outputsOf false s.buf)) :=
  step_of_no_good_frame hrow fun ⟨hfv, _⟩ => Bool.false_ne_true hfv

end StepOfByte

/-- Settles O47: neither row raises the strobe or writes the buffer, and each has one of the two bytes. -/
theorem syncLossIsSilent : Obligations.SyncLossIsSilent := by
  rintro s b hin (⟨-, rfl⟩ | ⟨hst, hdelim⟩)
  · exact ⟨_, step_of_no_strobe (exec_fetch_of_delim hin), rfl, rfl, rfl, rfl, rfl, rfl,
      fun _ => ⟨rfl, rfl⟩, fun hne => absurd rfl hne⟩
  · exact ⟨_, step_of_no_strobe (exec_fetch_of_idle hin hst hdelim), rfl, rfl, rfl, rfl, rfl, rfl,
      fun heq => absurd heq hdelim, fun _ => ⟨rfl, rfl⟩⟩

/-- Settles O48: the ninth byte completes the frame, whose bad checksum stops the frame row, and the verdict lines are those of
the completed frame. -/
theorem invalidChecksumIsReportedAndHarmless : Obligations.InvalidChecksumIsReportedAndHarmless := by
  intro s b hin hdelim hcnt hst x f hbad
  have hrow := exec_fetch_of_ninth hin hdelim hcnt hst
  have hstep := step_of_no_good_frame hrow fun ⟨_, hok⟩ => Bool.false_ne_true (hbad.symm.trans hok)
  have herr : (Safety.outputsOf true f).frameErr = true := by simp [Safety.outputsOf, hbad]
  have hno : (Safety.outputsOf true f).frameOk = false := by simp [Safety.outputsOf, hbad]
  exact ⟨_, hstep, rfl, rfl, rfl, rfl, hbad, rfl, herr, hno, rfl, rfl⟩

end Sys2Proof.Machine
end

section
/-! The encodings (`30_encoding.md`): what the encoder writes, the decoder reads back, byte by byte and frame by frame. -/

namespace Sys2Proof.Machine

section DecodeOfFrame
variable {p : Params}

/-- A class row other than the group row of class 2 is the leaf row already. -/
theorem decodeData_eq_decodeClass {appId : Half} {value32 : Word}
    (h : ∀ hubId value, decodeClass p appId value32 ≠ .class2Hub hubId value) :
    decodeData p appId value32 = decodeClass p appId value32 := by
  unfold decodeData
  unfold decodeClass at h ⊢
  cases hclass : classify p appId with
  | hub hubId => rw [hclass] at h; exact absurd rfl (h _ _)
  | rssi => rfl
  | swr => rfl
  | altFirst => rfl
  | other => rfl

/-- Where the class row is CLASS2.HUB the leaf row is the one of its table. -/
theorem decodeData_of_class2Hub {appId : Half} {value32 : Word} {hubId : Byte} {value : Half}
    (h : decodeClass p appId value32 = .class2Hub hubId value) :
    decodeData p appId value32 = decodeHub p hubId value := by
  unfold decodeData
  unfold decodeClass at h
  cases hclass : classify p appId with
  | hub id => rw [hclass] at h; cases h; rfl
  | rssi => rw [hclass] at h; cases h
  | swr => rw [hclass] at h; cases h
  | altFirst => rw [hclass] at h; cases h
  | other => rw [hclass] at h; cases h

/-- The gate lets a DATA_FRAME through to its leaf row. -/
theorem decodeFrame_of_dataFrame {f : Frame} (h : primOf f = Config.dataFrame) :
    decodeFrame p f = decodeData p (appIdOf f) (value32Of f) := if_pos h

/-- The gate stops every other frame. -/
theorem decodeFrame_of_prim_ne {f : Frame} (h : primOf f ≠ Config.dataFrame) :
    decodeFrame p f = .frameNotData (primOf f) := if_neg h

/-- The decoder reads back the operands a DATA_FRAME was built from. -/
theorem decodeFrame_dataFrameOf (appId : Half) (value32 : Word) :
    decodeFrame p (dataFrameOf appId value32) = decodeData p appId value32 := by
  rw [decodeFrame_of_dataFrame (by simp [dataFrameOf])]
  simp [dataFrameOf]

/-- A frame built for a class row that is a leaf row decodes to it. -/
theorem decodeFrame_of_decodeClass {appId : Half} {value32 : Word} {i : Instr} (hi : ∀ hubId value, i ≠ .class2Hub hubId value)
    (h : decodeClass p appId value32 = i) : decodeFrame p (dataFrameOf appId value32) = i := by
  subst h
  rw [decodeFrame_dataFrameOf, decodeData_eq_decodeClass hi]

/-- Class 2 takes the `appId` of a Hub identifier that class 1 does not take. -/
theorem decodeClass_hubAppId {hubId : Byte} (hreach : p.hubReachable hubId = true) (value : Half) :
    decodeClass p (hubAppId hubId) (value.setWidth 32) = .class2Hub hubId value := by
  have hclass1 : p.isClass1 (hubAppId hubId) = false := by simpa [Params.hubReachable] using hreach
  rw [decodeClass_hub _ hclass1 (highByte_hubAppId hubId), lowByte_hubAppId, lowHalf_setWidth]

/-- A Hub frame whose identifier class 1 does not take decodes to the row of the Hub table. -/
theorem decodeFrame_hubFrameOf {hubId : Byte} (hreach : p.hubReachable hubId = true) (value : Half) :
    decodeFrame p (hubFrameOf hubId value) = decodeHub p hubId value := by
  rw [hubFrameOf, decodeFrame_dataFrameOf, decodeData_of_class2Hub (decodeClass_hubAppId hreach value)]

/-- With admissible parameters the frame of the `i`-th Hub identifier decodes to the `i`-th row of the Hub table. -/
theorem decodeFrame_of_hubIds (hok : p.ok = true) (i : Nat) {hubId : Byte} (hid : p.hubIds[i]? = some hubId)
    (hreach : p.hubReachable hubId = true) (value : Half) :
    decodeFrame p (hubFrameOf hubId value) = (hubRows value).getD i (.hubOther hubId) := by
  rw [decodeFrame_hubFrameOf hreach, decodeHub_of_getElem? hok hid]

end DecodeOfFrame

/-- Settles O1, row by row: the byte rows by the tests of their state, the class rows by the chain of `appId` tests, the Hub rows by
their place in the table. -/
theorem decodeOfEncodeIsTheInstruction : Obligations.DecodeOfEncodeIsTheInstruction := by
  intro p i hok hwf
  obtain ⟨-, -, halt⟩ := (Params.ok_iff p).mp hok
  cases i with
  | idleDelim => exact decode_idle_delim p
  | idleOther b => exact decode_idle_of_ne p (by simpa [Instr.wellFormed] using hwf)
  | inFrameDelim => exact decode_inFrame_delim p
  | inFrameEsc => exact decode_inFrame_esc p
  | inFrameData b =>
    obtain ⟨hdelim, hesc⟩ : b ≠ Config.delim ∧ b ≠ Config.esc := by simpa [Instr.wellFormed] using hwf
    exact decode_inFrame_of_ne p hdelim hesc
  | escapedDelim => exact decode_escaped_delim p
  | escapedData b => exact decode_escaped_of_ne p (by simpa [Instr.wellFormed] using hwf)
  | dispatch appId value32 =>
    have hprim : primOf (dataFrameOf appId value32) = Config.dataFrame := primOf_mkFrame ..
    show decodeGate (dataFrameOf appId value32) = _
    rw [decodeGate, if_pos hprim]
    simp [dataFrameOf]
  | class1Rssi => exact decodeFrame_of_decodeClass nofun (decodeClass_rssi 0 rfl)
  | class1Swr =>
    have hne : p.swrId ≠ p.rssiId := by simpa [Instr.wellFormed] using hwf
    exact decodeFrame_of_decodeClass nofun (decodeClass_swr 0 hne rfl)
  | class2Hub hubId value =>
    show decodeClass p (appIdOf (hubFrameOf hubId value)) (value32Of (hubFrameOf hubId value)) = _
    rw [hubFrameOf, dataFrameOf, appIdOf_mkFrame, value32Of_mkFrame, decodeClass_hubAppId hwf]
  | hubAboveLast hubId =>
    obtain ⟨hreach, hlast⟩ : p.hubReachable hubId = true ∧ p.hubLastId < hubId := by
      simpa [Instr.wellFormed] using hwf
    exact (decodeFrame_hubFrameOf hreach 0).trans (decodeHub_of_last_lt hlast 0)
  | hubBaroAltAp value => exact decodeFrame_of_hubIds hok 0 rfl hwf value
  | hubGpsAltAp value => exact decodeFrame_of_hubIds hok 1 rfl hwf value
  | hubGpsLongBp value => exact decodeFrame_of_hubIds hok 2 rfl hwf value
  | hubGpsLongAp value => exact decodeFrame_of_hubIds hok 3 rfl hwf value
  | hubGpsLatBp value => exact decodeFrame_of_hubIds hok 4 rfl hwf value
  | hubGpsLatAp value => exact decodeFrame_of_hubIds hok 5 rfl hwf value
  | hubGpsLongEw value => exact decodeFrame_of_hubIds hok 6 rfl hwf value
  | hubGpsLatNs value => exact decodeFrame_of_hubIds hok 7 rfl hwf value
  | hubOther hubId =>
    obtain ⟨⟨hreach, hle⟩, hmem⟩ : (p.hubReachable hubId = true ∧ hubId ≤ p.hubLastId) ∧ hubId ∉ p.hubIds := by
      simpa [Instr.wellFormed] using hwf
    exact (decodeFrame_hubFrameOf hreach 0).trans (decodeHub_of_notMem (BitVec.not_lt.mpr hle) hmem 0)
  | class3AltFirst value32 =>
    have hclass1 : p.isClass1 p.altFirstId = false := by simpa [Instr.wellFormed] using hwf
    exact decodeFrame_of_decodeClass nofun (decodeClass_altFirst value32 hclass1 halt rfl)
  | class4Other appId =>
    obtain ⟨⟨hclass1, hhigh⟩, hne⟩ :
        (p.isClass1 appId = false ∧ highByte appId ≠ 0) ∧ appId ≠ p.altFirstId := by
      simpa [Instr.wellFormed] using hwf
    exact decodeFrame_of_decodeClass nofun (decodeClass_other 0 hclass1 hhigh hne)
  | frameNotData prim =>
    have hprim : prim ≠ Config.dataFrame := by simpa [Instr.wellFormed] using hwf
    exact decodeFrame_of_prim_ne (f := mkFrame 0 prim 0 0) hprim
  | _ => rfl

/-- Settles O2, by the tests each state makes of a byte. -/
theorem everyByteSelectsOneRow : Obligations.EveryByteSelectsOneRow := by
  intro p st b
  by_cases hdelim : b = Config.delim
  · subst hdelim
    cases st with
    | idle => rw [decode_idle_delim]; exact ⟨rfl, rfl⟩
    | inFrame => rw [decode_inFrame_delim]; exact ⟨rfl, rfl⟩
    | escaped => rw [decode_escaped_delim]; exact ⟨rfl, rfl⟩
  · cases st with
    | idle =>
      rw [decode_idle_of_ne p hdelim]
      exact ⟨bne_iff_ne.mpr hdelim, rfl⟩
    | inFrame =>
      by_cases hesc : b = Config.esc
      · subst hesc
        rw [decode_inFrame_esc]
        exact ⟨rfl, rfl⟩
      · rw [decode_inFrame_of_ne p hdelim hesc]
        exact ⟨by simp [Instr.wellFormed, hdelim, hesc], rfl⟩
    | escaped =>
      rw [decode_escaped_of_ne p hdelim]
      exact ⟨bne_iff_ne.mpr hdelim, rfl⟩

/-- Settles O3, by running the decoder on the fifteen words. -/
theorem writtenWordsDecode : Obligations.WrittenWordsDecode := by
  unfold Obligations.WrittenWordsDecode
  decide

/-- A frame is the list of its nine bytes. -/
theorem toList_frame (f : Frame) : f.toList = [f[0], f[1], f[2], f[3], f[4], f[5], f[6], f[7], f[8]] := by
  apply List.ext_getElem (by simp)
  intro i hi _
  have hi : i < 9 := by simpa using hi
  interval_cases i <;> rfl

/-- The nine bytes of a frame, put together again. -/
theorem frame_of_bytes (f : Frame) : #v[f[0], f[1], f[2], f[3], f[4], f[5], f[6], f[7], f[8]] = f :=
  Vector.toList_inj.mp (toList_frame f).symm

/-- Settles O5: the decoder's one pattern is a list of nine bytes, which put together again are the frame. -/
theorem onlyNineBytesAreAFrame : Obligations.OnlyNineBytesAreAFrame := by
  refine fun p bs => ⟨fun hlen => ?rejected, fun f hf => ?frame⟩
  case rejected =>
    unfold decodeFrameBytes
    split
    · exact absurd rfl hlen
    · rfl
  case frame =>
    rw [hf, toList_frame, decodeFrameBytes, frame_of_bytes]
    rfl

end Sys2Proof.Machine
end

section
/-! What one step does, on the part of the state that SYNC owns: a function of the cycle's input (`40_synchronizer.md` R65 to R74),
which every statement about steps and streams below goes through. -/

namespace Sys2Proof.Machine

open Sys2Proof.Safety

/-- The part of the state that SYNC reads and writes (R11 to R14). -/
structure SyncPart where
  buf : Frame
  st : SyncState
  cnt : Fin 9
  fv : Bool

/-- SYNC's part of a state. -/
def State.sync (s : State) : SyncPart := { buf := s.buf, st := s.st, cnt := s.cnt, fv := s.fv }

namespace SyncPart

/-- A byte of the frame is stored and counted; the ninth one completes the frame (R70, R72, R73). -/
def store (x : SyncPart) (b : Byte) : SyncPart :=
  if h : x.cnt.val < 8 then
    { buf := x.buf.set x.cnt.val b x.cnt.isLt, st := .inFrame, cnt := ⟨x.cnt.val + 1, by omega⟩, fv := false }
  else { buf := x.buf.set x.cnt.val b x.cnt.isLt, st := .idle, cnt := 0, fv := true }

/-- A byte met in the state (R66 to R72). -/
def take (x : SyncPart) (b : Byte) : SyncPart :=
  if b = Config.delim then { x with st := .inFrame, cnt := 0, fv := false }
  else if x.st = .idle then { x with fv := false }
  else if x.st = .inFrame ∧ b = Config.esc then { x with st := .escaped, fv := false }
  else x.store (frameByte x.st b)

/-- A cycle: reset first, then no byte, then the byte (R65, R74, R165). -/
def next (x : SyncPart) (i : Input) : SyncPart :=
  if i.rst then { x with st := .idle, cnt := 0, fv := false }
  else match i.rx with
    | none => { x with fv := false }
    | some b => x.take b

/-- A cycle that stores nothing: it shows no strobe, and either clears the count or keeps it without leaving or entering IDLE. -/
structure Quiet (x y : SyncPart) : Prop where
  buf : y.buf = x.buf
  fv : y.fv = false
  cnt : y.cnt = 0 ∨ (y.cnt = x.cnt ∧ (y.st = .idle ↔ x.st = .idle))

section Next
variable (x : SyncPart) {b : Byte}

theorem store_of_lt (b : Byte) (h : x.cnt.val < 8) :
    x.store b =
      { buf := x.buf.set x.cnt.val b x.cnt.isLt, st := .inFrame, cnt := ⟨x.cnt.val + 1, by omega⟩, fv := false } :=
  dif_pos h

theorem store_of_eq (b : Byte) (h : x.cnt.val = 8) :
    x.store b = { buf := x.buf.set x.cnt.val b x.cnt.isLt, st := .idle, cnt := 0, fv := true } :=
  dif_neg (by omega)

@[simp] theorem store_buf (b : Byte) : (x.store b).buf = x.buf.set x.cnt.val b x.cnt.isLt := by
  unfold store; split <;> rfl

theorem next_of_rst {i : Input} (h : i.rst = true) : x.next i = { x with st := .idle, cnt := 0, fv := false } :=
  if_pos h

@[simp] theorem next_none : x.next Input.none = { x with fv := false } := rfl

theorem next_byte (b : Byte) : x.next (Input.byte b) = x.take b := rfl

@[simp] theorem next_delim : x.next (Input.byte Config.delim) = { x with st := .inFrame, cnt := 0, fv := false } := by
  rw [next_byte, take, if_pos rfl]

theorem next_of_idle (hdelim : b ≠ Config.delim) (hst : x.st = .idle) :
    x.next (Input.byte b) = { x with fv := false } := by
  rw [next_byte, take, if_neg hdelim, if_pos hst]

theorem next_of_esc (hst : x.st = .inFrame) :
    x.next (Input.byte Config.esc) = { x with st := .escaped, fv := false } := by
  have esc_ne_delim : Config.esc ≠ Config.delim := by decide
  rw [next_byte, take, if_neg esc_ne_delim, if_neg (by simp [hst]), if_pos ⟨hst, rfl⟩]

theorem next_of_data (hdelim : b ≠ Config.delim) (hst : (x.st = .inFrame ∧ b ≠ Config.esc) ∨ x.st = .escaped) :
    x.next (Input.byte b) = x.store (frameByte x.st b) := by
  rw [next_byte, take, if_neg hdelim]
  rcases hst with ⟨hst, hesc⟩ | hst
  · rw [if_neg (by simp [hst]), if_neg (by simp [hesc])]
  · rw [if_neg (by simp [hst]), if_neg (by simp [hst])]

end Next

/-- What a cycle does is settled by the state, the count and the input: it leaves the buffer as it is, or it stores one data byte. -/
theorem next_uniform (st : SyncState) (n : Fin 9) (i : Input) :
    (∃ st' n', (n' = 0 ∨ (n' = n ∧ (st' = .idle ↔ st = .idle))) ∧
      ∀ buf v, next ⟨buf, st, n, v⟩ i = ⟨buf, st', n', false⟩) ∨
    ∃ b, i = Input.byte b ∧ b ≠ Config.delim ∧ ((st = .inFrame ∧ b ≠ Config.esc) ∨ st = .escaped) ∧
      ∀ buf v, next ⟨buf, st, n, v⟩ i = store ⟨buf, st, n, v⟩ (frameByte st b) := by
  obtain ⟨rst, rx⟩ := i
  cases rst with
  | true => exact .inl ⟨.idle, 0, .inl rfl, fun _ _ => rfl⟩
  | false =>
    cases rx with
    | none => exact .inl ⟨st, n, .inr ⟨rfl, Iff.rfl⟩, fun _ _ => rfl⟩
    | some b =>
      by_cases hdelim : b = Config.delim
      · subst hdelim
        exact .inl ⟨.inFrame, 0, .inl rfl, fun _ _ => next_delim _⟩
      by_cases hidle : st = .idle
      · exact .inl ⟨st, n, .inr ⟨rfl, Iff.rfl⟩, fun buf v => next_of_idle ⟨buf, st, n, v⟩ hdelim hidle⟩
      by_cases hesc : st = .inFrame ∧ b = Config.esc
      · obtain ⟨rfl, rfl⟩ := hesc
        exact .inl ⟨.escaped, n, .inr ⟨rfl, by decide⟩, fun buf v => next_of_esc ⟨buf, .inFrame, n, v⟩ rfl⟩
      · have hst : (st = .inFrame ∧ b ≠ Config.esc) ∨ st = .escaped := by
          cases st with
          | idle => exact absurd rfl hidle
          | inFrame => exact .inl ⟨rfl, fun hb => hesc ⟨rfl, hb⟩⟩
          | escaped => exact .inr rfl
        exact .inr ⟨b, rfl, hdelim, hst, fun buf v => next_of_data ⟨buf, st, n, v⟩ hdelim hst⟩

/-- The same for one part: a cycle stores a data byte, or it stores nothing. -/
theorem next_cases (x : SyncPart) (i : Input) :
    x.Quiet (x.next i) ∨
    ∃ b, i = Input.byte b ∧ b ≠ Config.delim ∧ ((x.st = .inFrame ∧ b ≠ Config.esc) ∨ x.st = .escaped) ∧
      x.next i = x.store (frameByte x.st b) := by
  obtain ⟨st', n', hcnt, hnext⟩ | ⟨b, hin, hdelim, hst, hnext⟩ := next_uniform x.st x.cnt i
  · have hx : x.next i = ⟨x.buf, st', n', false⟩ := hnext x.buf x.fv
    exact .inl (hx ▸ ⟨rfl, rfl, hcnt⟩)
  · exact .inr ⟨b, hin, hdelim, hst, hnext x.buf x.fv⟩

/-- The strobe of the cycle before is not looked at. -/
theorem next_congr {x y : SyncPart} (hbuf : x.buf = y.buf) (hst : x.st = y.st) (hcnt : x.cnt = y.cnt) (i : Input) :
    x.next i = y.next i := by
  obtain ⟨buf, st, n, v⟩ := x
  obtain ⟨buf', st', n', v'⟩ := y
  cases hbuf; cases hst; cases hcnt
  obtain ⟨_, _, -, hnext⟩ | ⟨_, -, -, -, hnext⟩ := next_uniform st n i
  · rw [hnext, hnext]
  · rw [hnext, hnext]
    rfl

end SyncPart

section SyncOfState
variable (s : State)

@[simp] theorem sync_buf : s.sync.buf = s.buf := rfl
@[simp] theorem sync_st : s.sync.st = s.st := rfl
@[simp] theorem consume_sync : s.consume.sync = s.sync := rfl

/-- The counted store of SYNC's rows, which run it in IN_FRAME, is that of `SyncPart`. -/
theorem storeCounted_sync (b : Byte) (hst : s.st = .inFrame) : (storeCounted b s).sync = s.sync.store b := by
  by_cases h : s.cnt.val < 8
  · rw [storeCounted_of_lt b s h, SyncPart.store_of_lt _ b h, ← hst]
    rfl
  · have h : s.cnt.val = 8 := by omega
    rw [storeCounted_of_eq b s h, SyncPart.store_of_eq _ b h]
    rfl

end SyncOfState

/-- What SYNC's row leaves of a state. -/
structure RowFacts (s s1 : State) : Prop where
  sync : s1.sync = s.sync.next (currentInput s)
  params : s1.params = s.params
  inputs : s1.inputs = s.inputs.tail
  tlm : s1.tlm = if (currentInput s).rst then Telemetry.reset else s.tlm

/-- SYNC's row moves SYNC's part as `SyncPart.next` says; of the rest it consumes the input, and a reset clears the Telemetry
State. -/
theorem exec_fetch_rowFacts (s : State) : ∃ s1, exec (fetch s) s.consume = .next s1 ∧ RowFacts s s1 := by
  rcases exec_fetch_cases s with
    ⟨hin, hrow⟩ | ⟨hin, hrow⟩ | ⟨hin, hrow⟩ | ⟨b, hin, hdelim, hst, hrow⟩ | ⟨hin, hst, hrow⟩ |
    ⟨b, hin, hdelim, hesc, hst, hrow⟩ | ⟨b, hin, hdelim, hst, hrow⟩
  · exact ⟨_, hrow, (SyncPart.next_of_rst s.sync hin).symm, rfl, rfl, (if_pos hin).symm⟩
  · exact ⟨_, hrow, by rw [hin]; rfl, rfl, rfl, by rw [hin]; rfl⟩
  · exact ⟨_, hrow, by rw [hin, SyncPart.next_delim]; rfl, rfl, rfl, by rw [hin]; rfl⟩
  · exact ⟨_, hrow, by rw [hin, SyncPart.next_of_idle _ hdelim hst, ← hst]; rfl, rfl, rfl, by rw [hin]; rfl⟩
  · exact ⟨_, hrow, by rw [hin, SyncPart.next_of_esc _ hst]; rfl, rfl, rfl, by rw [hin]; rfl⟩
  · refine ⟨_, hrow, ?_, storeCounted_params .., storeCounted_inputs .., by rw [hin]; exact storeCounted_tlm ..⟩
    have hplain : frameByte s.sync.st b = b := if_neg (by simp [hst])
    rw [hin, SyncPart.next_of_data _ hdelim (.inl ⟨hst, hesc⟩), storeCounted_sync s.consume b hst, hplain, consume_sync]
  · refine ⟨_, hrow, ?_, storeCounted_params .., storeCounted_inputs .., by rw [hin]; exact storeCounted_tlm ..⟩
    have hescaped : frameByte s.sync.st b = destuffed b := if_pos hst
    rw [hin, SyncPart.next_of_data _ hdelim (.inr hst), storeCounted_sync _ _ rfl, hescaped]
    rfl

/-- A Hub row updates the Telemetry State from the parameters and itself alone. -/
theorem exec_decodeHub_update (p : Params) (hubId : Byte) (value : Half) :
    ∃ g : Params → Telemetry → Telemetry, ∀ s : State,
      exec (decodeHub p hubId value) s = .next (s.setTlm (g s.params s.tlm)) := by
  unfold decodeHub
  cases classifyHub p hubId with
  | aboveLast => exact ⟨fun _ T => T, fun s => exec_hubAboveLast s hubId⟩
  | baroAltAp =>
    refine ⟨fun q T => match q.altSrc with | .vario => { T with altitude := centiScaled value } | .gps => T, fun s => ?_⟩
    simp only [exec, execHubBaroAltAp]
    cases s.params.altSrc <;> rfl
  | gpsAltAp =>
    refine ⟨fun q T => match q.altSrc with | .vario => T | .gps => { T with altitude := value }, fun s => ?_⟩
    simp only [exec, execHubGpsAltAp]
    cases s.params.altSrc <;> rfl
  | gpsLongBp => exact ⟨fun _ T => { T with lonBP := value, hasFix := value != 0 }, exec_hubGpsLongBp value⟩
  | gpsLongAp => exact ⟨fun _ T => { T with lonAP := value }, exec_hubGpsLongAp value⟩
  | gpsLatBp => exact ⟨fun _ T => { T with latBP := value, hasFix := value != 0 }, exec_hubGpsLatBp value⟩
  | gpsLatAp => exact ⟨fun _ T => { T with latAP := value }, exec_hubGpsLatAp value⟩
  | gpsLongEw => exact ⟨fun _ T => { T with longitudeSign := if value = Config.charE then .plus else .minus, hasLon := true },
      exec_hubGpsLongEw value⟩
  | gpsLatNs => exact ⟨fun _ T => { T with latitudeSign := if value = Config.charN then .plus else .minus, hasLat := true },
      exec_hubGpsLatNs value⟩
  | other => exact ⟨fun _ T => T, fun s => exec_hubOther s hubId⟩

/-- The leaf row of a frame updates the Telemetry State from the parameters and itself alone. -/
theorem exec_decodeFrame_update (p : Params) (f : Frame) :
    ∃ g : Params → Telemetry → Telemetry, ∀ s : State,
      exec (decodeFrame p f) s = .next (s.setTlm (g s.params s.tlm)) := by
  unfold decodeFrame
  split
  · unfold decodeData
    cases classify p (appIdOf f) with
    | hub hubId => exact exec_decodeHub_update p hubId _
    | rssi => exact ⟨fun _ T => T, exec_class1Rssi⟩
    | swr => exact ⟨fun _ T => T, exec_class1Swr⟩
    | altFirst => exact ⟨fun q T => { T with altitude := convertAlt32 q (value32Of f) }, fun _ => rfl⟩
    | other => exact ⟨fun _ T => T, fun s => exec_class4Other s (appIdOf f)⟩
  · exact ⟨fun _ T => T, fun s => exec_frameNotData (primOf f) s⟩

/-- A row that answers a new Telemetry State answers one. -/
theorem tlm_unique {i : Instr} {s : State} {u v : Telemetry} (hu : exec i s = .next (s.setTlm u))
    (hv : exec i s = .next (s.setTlm v)) : u = v :=
  congrArg State.tlm (Host.Outcome.next.inj (hu.symm.trans hv))

/-- What a frame's row makes of the Telemetry State is the same from any two states with the same one and the same parameters. -/
theorem exec_decodeFrame_congr {p : Params} {f : Frame} {s s' : State} {u : Telemetry} (htlm : s'.tlm = s.tlm)
    (hparams : s'.params = s.params) (h : exec (decodeFrame p f) s = .next (s.setTlm u)) :
    exec (decodeFrame p f) s' = .next (s'.setTlm u) := by
  obtain ⟨g, hg⟩ := exec_decodeFrame_update p f
  rw [hg s', htlm, hparams, tlm_unique (hg s) h]

/-- What a step leaves, field by field: SYNC's part and the input from SYNC's row, the output lines from SYNC's part after it, and the
Telemetry State from a reset or from the row of an accepted frame. -/
structure StepFacts (s t : State) : Prop where
  sync : t.sync = s.sync.next (currentInput s)
  out : t.out = outputsOf t.fv t.buf
  params : t.params = s.params
  inputs : t.inputs = s.inputs.tail
  tlm_reset : (currentInput s).rst = true → t.tlm = Telemetry.reset
  tlm_kept : (currentInput s).rst = false → ¬ (t.fv = true ∧ chkOkOf t.buf = true) → t.tlm = s.tlm
  tlm_row : (currentInput s).rst = false → t.fv = true → chkOkOf t.buf = true →
    exec (decodeFrame s.params t.buf) s = .next (s.setTlm t.tlm)

/-- Every step does what `StepFacts` says: SYNC's row, the frame's row and the output rows, put together. -/
theorem stepFacts {s t : State} (h : step s = .next t) : StepFacts s t := by
  obtain ⟨s1, hrow, hfacts⟩ := exec_fetch_rowFacts s
  obtain ⟨s1', u, hrow', hframe, hkept, rfl⟩ := step_cases h
  obtain rfl : s1 = s1' := Host.Outcome.next.inj (hrow.symm.trans hrow')
  have htlm : (currentInput s).rst = false → s1.tlm = s.tlm := fun hrst => by rw [hfacts.tlm, hrst]; rfl
  refine ⟨hfacts.sync, rfl, hfacts.params, hfacts.inputs, fun hrst => ?reset, fun hrst hbad => ?kept,
    fun hrst hfv hok => ?row⟩
  case reset =>
    have hfv : s1.fv = false := by
      have hsync := hfacts.sync
      rw [SyncPart.next_of_rst _ hrst] at hsync
      exact congrArg SyncPart.fv hsync
    have hu : u = s1.tlm := hkept fun ⟨hstrobe, _⟩ => Bool.false_ne_true (hfv.symm.trans hstrobe)
    show u = _
    rw [hu, hfacts.tlm, hrst]
    rfl
  case kept => exact (hkept hbad).trans (htlm hrst)
  case row =>
    rw [runRows_frameRows, if_pos ⟨hfv, hok⟩, hfacts.params] at hframe
    exact exec_decodeFrame_congr (htlm hrst).symm hfacts.params.symm hframe

/-- Every state has a next state, of which `StepFacts` holds. -/
theorem exists_stepFacts (s : State) : ∃ t, step s = .next t ∧ StepFacts s t := by
  obtain ⟨t, ht⟩ := step_next s
  exact ⟨t, ht, stepFacts ht⟩

section OfStepFacts
variable {s t : State}

theorem StepFacts.buf (h : StepFacts s t) : t.buf = (s.sync.next (currentInput s)).buf := congrArg SyncPart.buf h.sync
theorem StepFacts.st (h : StepFacts s t) : t.st = (s.sync.next (currentInput s)).st := congrArg SyncPart.st h.sync
theorem StepFacts.cnt (h : StepFacts s t) : t.cnt = (s.sync.next (currentInput s)).cnt := congrArg SyncPart.cnt h.sync
theorem StepFacts.fv (h : StepFacts s t) : t.fv = (s.sync.next (currentInput s)).fv := congrArg SyncPart.fv h.sync

end OfStepFacts

section SyncInvariant
variable (x : SyncPart) (i : Input)

/-- R15 (b): SYNC's part keeps the count 0 in IDLE. -/
theorem next_keeps_idle_count (hx : x.st = .idle → x.cnt = 0) (hidle : (x.next i).st = .idle) : (x.next i).cnt = 0 := by
  rcases x.next_cases i with hquiet | ⟨b, -, -, -, hstore⟩
  · rcases hquiet.cnt with hzero | ⟨hsame, hst⟩
    · exact hzero
    · exact hsame.trans (hx (hst.mp hidle))
  · rw [hstore] at hidle ⊢
    by_cases hcnt : x.cnt.val < 8
    · rw [x.store_of_lt _ hcnt] at hidle
      cases hidle
    · rw [x.store_of_eq _ (by omega)]

/-- R15 (c): the strobe shows IDLE. -/
theorem next_strobe_is_idle (hfv : (x.next i).fv = true) : (x.next i).st = .idle := by
  rcases x.next_cases i with hquiet | ⟨b, -, -, -, hstore⟩
  · rw [hquiet.fv] at hfv
    cases hfv
  · rw [hstore] at hfv ⊢
    by_cases hcnt : x.cnt.val < 8
    · rw [x.store_of_lt _ hcnt] at hfv
      cases hfv
    · rw [x.store_of_eq _ (by omega)]

end SyncInvariant

/-- Settles O41: SYNC's part keeps the first two clauses, and a step drives the output lines and writes no parameter. -/
theorem stepKeepsTheInvariant : Obligations.StepKeepsTheInvariant := by
  intro s t hinv hstep
  have h := stepFacts hstep
  refine ⟨fun hidle => ?idleCount, fun hfv => ?strobe, h.out, h.params ▸ hinv.params_ok⟩
  case idleCount => exact h.cnt.trans (next_keeps_idle_count _ _ hinv.idle_counts_none (h.st ▸ hidle))
  case strobe => exact h.st.trans (next_strobe_is_idle _ _ (h.fv ▸ hfv))

/-- Settles O42: the values of the reset state, evaluated. -/
theorem resetHasTheInvariant : Obligations.ResetHasTheInvariant := by
  refine ⟨fun _ => rfl, fun hfv => ?_, ?_, ?_⟩
  · exact absurd hfv Bool.false_ne_true
  · decide
  · decide

/-- Settles O43. -/
theorem resetStateValues : Obligations.ResetStateValues := ⟨rfl, rfl, rfl, rfl, rfl, rfl⟩

/-- Settles O44: it is the last thing a step does. -/
theorem outputsShowTheStateAfterTheStep : Obligations.OutputsShowTheStateAfterTheStep :=
  fun _ _ hstep => (stepFacts hstep).out

end Sys2Proof.Machine
end

section
/-! The checksum (`41_checksum.md`): one iteration adds with an end-around carry, so the accumulator is a function of the integer sum
of the bytes, and what R87 to R93 say of frames is said of that sum. -/

namespace Sys2Proof.Machine

open Sys2Proof.Safety

/-- The closed form of R89, as a function of the integer sum. -/
def endAround (sum : Nat) : Nat := if sum = 0 then 0 else (sum - 1) % 255 + 1

/-- One iteration of CHECK adds with an end-around carry (R88). -/
theorem chkAdd_eq {acc : Nat} (hacc : acc ≤ 255) (x : Byte) :
    chkAdd acc x = if acc + x.toNat ≤ 255 then acc + x.toNat else acc + x.toNat - 255 := by
  have hx : x.toNat < 256 := x.isLt
  rw [chkAdd, foldCarry_of_le (foldCarry_le _), foldCarry_eq]
  split <;> omega

/-- Adding a byte to the accumulator adds it to the sum that the accumulator shows. -/
theorem chkAdd_endAround (sum : Nat) (x : Byte) : chkAdd (endAround sum) x = endAround (sum + x.toNat) := by
  have hx : x.toNat < 256 := x.isLt
  have hle : endAround sum ≤ 255 := by unfold endAround; split <;> omega
  rw [chkAdd_eq hle]
  unfold endAround
  split_ifs <;> omega

/-- The accumulator after a list of bytes shows their sum. -/
theorem chkSum_endAround (sum : Nat) (bs : List Byte) :
    chkSum (endAround sum) bs = endAround (sum + (bs.map BitVec.toNat).sum) := by
  induction bs generalizing sum with
  | nil => rfl
  | cons b bs ih => rw [chkSum_cons, chkAdd_endAround, ih, List.map_cons, List.sum_cons, Nat.add_assoc]

/-- From 0 the accumulator shows the sum of the bytes (R89). -/
theorem chkSum_zero (bs : List Byte) : chkSum 0 bs = endAround (bs.map BitVec.toNat).sum := by
  have h := chkSum_endAround 0 bs
  rwa [Nat.zero_add] at h

/-- The final accumulator is the closed form of the sum of bytes 1 to 8. -/
theorem toNat_chkAccOf (f : Frame) : (chkAccOf f).toNat = endAround (summed f) := by
  have hle : chkSum 0 (summedBytes f) ≤ 255 := chkSum_le (Nat.zero_le 255) _
  rw [chkAccOf, BitVec.toNat_ofNat, Nat.mod_eq_of_lt (by omega), chkSum_zero, summed]

/-- Frames have the same accumulator exactly when their sums have the same closed form. -/
theorem chkAccOf_eq_iff (f g : Frame) : chkAccOf f = chkAccOf g ↔ endAround (summed f) = endAround (summed g) := by
  rw [← BitVec.toNat_inj, toNat_chkAccOf, toNat_chkAccOf]

/-- The checksum is good exactly when the running accumulator ends at 255. -/
theorem chkOkOf_iff_chkSum (f : Frame) : chkOkOf f = true ↔ chkSum 0 (summedBytes f) = 255 := by
  have hgood : Config.chkGood.toNat = 255 := rfl
  rw [chkOkOf, beq_iff_eq, ← BitVec.toNat_inj, toNat_chkAccOf, hgood, chkSum_zero, summed]

/-- The checksum is good exactly when the sum is a positive multiple of 255 (R91). -/
theorem chkOkOf_iff_summed (f : Frame) : chkOkOf f = true ↔ summed f ≠ 0 ∧ summed f % 255 = 0 := by
  rw [chkOkOf_iff_chkSum, chkSum_zero, ← summed, endAround]
  split <;> omega

/-- CHECK drives the four verdict lines from `fv` and the buffer. -/
theorem exec_check (s : State) :
    exec .check s = .next (s.setOut { s.out with
      chkAcc := chkAccOf s.buf, chkOk := chkOkOf s.buf,
      frameOk := s.fv && chkOkOf s.buf, frameErr := s.fv && !chkOkOf s.buf }) :=
  congrArg Host.Outcome.next (driveCheck_eq s)

/-- Settles O15. -/
theorem checksumClosedForm : Obligations.ChecksumClosedForm := toNat_chkAccOf

/-- Settles O16: the first fold leaves a byte, and a byte is its own fold. -/
theorem secondFoldIsIdentity : Obligations.SecondFoldIsIdentity :=
  fun _ x hacc => ⟨foldCarry_of_le (foldCarry_le _), chkAdd_eq hacc x⟩

/-- Settles O17, with the accumulator of the buffer. -/
theorem checkDrivesTheVerdict : Obligations.CheckDrivesTheVerdict :=
  ⟨fun _ => rfl, fun s => ⟨chkAccOf s.buf, toNat_chkAccOf s.buf, exec_check s⟩⟩

section SetByte
variable (f : Frame)

/-- Byte 0 is not summed (R87). -/
theorem summedBytes_set_zero (b : Byte) : summedBytes (f.set 0 b) = summedBytes f := by
  simp [summedBytes]

/-- Byte 8, the trailer, is summed last. -/
theorem summedBytes_set_eight (t : Byte) :
    summedBytes (f.set 8 t) = [f[1], f[2], f[3], f[4], f[5], f[6], f[7]] ++ [t] := by
  simp [summedBytes]

/-- Replacing one of the bytes 1 to 8 replaces it in the sum. -/
theorem summed_set {i : Fin 9} (hi : i ≠ 0) (b : Byte) :
    summed (f.set i.val b i.isLt) + f[i].toNat = summed f + b.toNat := by
  obtain ⟨i, hlt⟩ := i
  have hpos : 1 ≤ i := by
    have hne : i ≠ 0 := fun h => hi (Fin.ext h)
    omega
  interval_cases i <;> simp [summed, summedBytes] <;> omega

end SetByte

/-- Every byte has a neighbour among the bytes. -/
theorem exists_byte_differing_by_one (x : Byte) : ∃ b : Byte, b.toNat = x.toNat + 1 ∨ b.toNat + 1 = x.toNat := by
  have hx : x.toNat < 256 := x.isLt
  by_cases htop : x.toNat = 255
  · exact ⟨254, .inr htop.symm⟩
  · exact ⟨BitVec.ofNat 8 (x.toNat + 1), .inl (by rw [BitVec.toNat_ofNat]; omega)⟩

/-- Sums that differ by one have different closed forms. -/
theorem endAround_succ_ne (sum : Nat) : endAround (sum + 1) ≠ endAround sum := by
  intro h
  unfold endAround at h
  split_ifs at h <;> omega

/-- Settles O18: a byte that differs by one from the byte it replaces changes the sum by one, and so the accumulator. -/
theorem checksumCoversBytesOneToEight : Obligations.ChecksumCoversBytesOneToEight := by
  refine ⟨fun f b => by rw [chkAccOf, summedBytes_set_zero, ← chkAccOf], fun f i hi => ?_⟩
  obtain ⟨b, hb⟩ := exists_byte_differing_by_one f[i]
  refine ⟨b, fun h => ?_⟩
  rw [chkAccOf_eq_iff] at h
  have hsum := summed_set f hi b
  rcases hb with hup | hdown
  · have hsucc : summed (f.set i.val b i.isLt) = summed f + 1 := by omega
    exact endAround_succ_ne (summed f) (hsucc ▸ h)
  · have hsucc : summed f = summed (f.set i.val b i.isLt) + 1 := by omega
    exact endAround_succ_ne _ (hsucc ▸ h).symm

/-- Inverting bit `k` of a number adds or subtracts `2 ^ k`, by its halves. -/
theorem xor_two_pow_cases (k x : Nat) : x ^^^ 2 ^ k = x + 2 ^ k ∨ (x ^^^ 2 ^ k) + 2 ^ k = x := by
  induction k generalizing x with
  | zero =>
    have hhalf : (x ^^^ 2 ^ 0) / 2 = x / 2 := by simp [Nat.xor_div_two]
    have hbit : (x ^^^ 2 ^ 0) % 2 = (x + 1) % 2 := Nat.xor_mod_two_eq
    omega
  | succ k ih =>
    have hhalf : (x ^^^ 2 ^ (k + 1)) / 2 = x / 2 ^^^ 2 ^ k := by
      rw [Nat.xor_div_two, Nat.pow_succ, Nat.mul_div_cancel _ (by decide)]
    have hbit : (x ^^^ 2 ^ (k + 1)) % 2 = (x + 2 ^ (k + 1)) % 2 := Nat.xor_mod_two_eq
    have hpow : 2 ^ (k + 1) = 2 ^ k * 2 := Nat.pow_succ ..
    have hih := ih (x / 2)
    omega

/-- Settles O19: an inverted bit changes the sum by at most 128, which is no multiple of 255. -/
theorem everySingleBitErrorIsDetected : Obligations.EverySingleBitErrorIsDetected := by
  intro f i k hi hk hok
  have hpow : 2 ^ k ≤ 2 ^ 7 := Nat.pow_le_pow_right (by decide) (by omega)
  have hpos : 0 < 2 ^ k := Nat.two_pow_pos k
  have hflip : (f[i] ^^^ BitVec.twoPow 8 k).toNat = f[i].toNat ^^^ 2 ^ k := by
    rw [BitVec.toNat_xor, BitVec.toNat_twoPow, Nat.mod_eq_of_lt (by omega)]
  have hsum := summed_set f hi (f[i] ^^^ BitVec.twoPow 8 k)
  rw [hflip] at hsum
  obtain ⟨-, hmult⟩ := (chkOkOf_iff_summed f).mp hok
  refine Bool.eq_false_iff.mpr fun hgood => ?_
  obtain ⟨-, hmult'⟩ := (chkOkOf_iff_summed _).mp hgood
  rcases xor_two_pow_cases k f[i].toNat with hup | hdown <;> omega

/-- Settles O20: the sum does not depend on the order. -/
theorem checksumIgnoresOrder : Obligations.ChecksumIgnoresOrder := by
  intro f g hperm
  have hsum : summed f = summed g := (hperm.map BitVec.toNat).sum_eq
  rw [chkAccOf_eq_iff, hsum]

section Trailer
variable (f : Frame)

/-- With the trailer `t` the verdict is one more iteration, from the accumulator of the seven bytes before. -/
theorem chkOkOf_set_eight (t : Byte) :
    chkOkOf (f.set 8 t) = true ↔ chkAdd (chkSum 0 [f[1], f[2], f[3], f[4], f[5], f[6], f[7]]) t = 255 := by
  rw [chkOkOf_iff_chkSum, summedBytes_set_eight, chkSum_append]
  rfl

/-- The trailers that take an accumulator to 255 (R92). -/
theorem chkAdd_eq_255_iff {acc : Nat} (hacc : acc ≤ 255) (t : Byte) :
    chkAdd acc t = 255 ↔
      if acc = 0 then t = 0xFF else if acc = 255 then t = 0 ∨ t = 0xFF else t.toNat = 255 - acc := by
  have ht : t.toNat < 256 := t.isLt
  have hff : t = 0xFF ↔ t.toNat = 255 := BitVec.toNat_inj.symm
  have hzero : t = 0 ↔ t.toNat = 0 := BitVec.toNat_inj.symm
  rw [chkAdd_eq hacc, hff, hzero]
  split_ifs <;> omega

/-- TRAILER answers a trailer that takes the accumulator of its bytes to 255. -/
theorem chkAdd_trailerFor (bs : List Byte) : chkAdd (chkSum 0 bs) (trailerFor bs) = 255 := by
  have hle : chkSum 0 bs ≤ 255 := chkSum_le (Nat.zero_le 255) bs
  rw [chkAdd_eq_255_iff hle, trailerFor]
  split_ifs with hzero htop
  · rfl
  · exact .inl (by rw [htop]; rfl)
  · rw [BitVec.toNat_ofNat]
    omega

/-- A frame with the trailer of TRAILER has a good checksum. -/
theorem chkOkOf_set_trailerFor : chkOkOf (f.set 8 (trailerFor [f[1], f[2], f[3], f[4], f[5], f[6], f[7]])) = true :=
  (chkOkOf_set_eight f _).mpr (chkAdd_trailerFor _)

/-- A frame that MKFRAME built has a good checksum (R57). -/
theorem chkOkOf_mkFrame (dataId prim : Byte) (appId : Half) (value32 : Word) :
    chkOkOf (mkFrame dataId prim appId value32) = true :=
  chkOkOf_set_trailerFor (mkFrame dataId prim appId value32)

end Trailer

/-- Settles O21. -/
theorem validTrailers : Obligations.ValidTrailers := by
  intro f t before a7
  have ha7 : a7 ≤ 255 := chkSum_le (Nat.zero_le 255) before
  exact ⟨(chkOkOf_set_eight f t).trans (chkAdd_eq_255_iff ha7 t), chkOkOf_set_trailerFor f⟩

/-- Settles O4: the trailer is TRAILER's, and each field is put together from the bytes it was cut into. -/
theorem builtFramesPassTheCheckAndReadBack : Obligations.BuiltFramesPassTheCheckAndReadBack := by
  intro dataId prim appId value32 f
  refine ⟨chkOkOf_mkFrame dataId prim appId value32, rfl, rfl, appIdOf_mkFrame .., value32Of_mkFrame .., rfl, ?value16⟩
  case value16 => rw [← lowHalf_value32Of, value32Of_mkFrame]

end Sys2Proof.Machine
end

section
/-! The remaining rows, one by one (`40_synchronizer.md` R71 to R74, `42_parser.md` R100, `43_telemetry_annex.md` R120 to R126), and
the accessors (R135, R136). -/

namespace Sys2Proof.Machine

/-- Settles O11: the delimiter in ESCAPED restarts the frame. -/
theorem escapedDelimRestarts : Obligations.EscapedDelimRestarts :=
  ⟨decode_escaped_delim, fun s _ => exec_escapedDelim s⟩

/-- Settles O12, by the two cases of the counted store, which ESCAPED.DATA runs with IN_FRAME as the state to go back to. -/
theorem escapedDataDestuffs : Obligations.EscapedDataDestuffs := by
  refine ⟨fun p b hdelim => decode_escaped_of_ne p hdelim, fun b s _ _ => ⟨fun hlt => ?below, fun heq => ?ninth⟩⟩
  case below =>
    rw [exec_escapedData, storeCounted_count_up _ (s := s.setSync .inFrame s.cnt s.fv) hlt]
    rfl
  case ninth =>
    rw [exec_escapedData, next_storeCounted_eq_complete _ (s := s.setSync .inFrame s.cnt s.fv) heq]
    rfl

/-- Settles O13. -/
theorem completeEmitsTheFrame : Obligations.CompleteEmitsTheFrame := ⟨fun _ => rfl, exec_complete⟩

/-- NOBYTE writes the strobe alone. -/
theorem exec_noByte (s : State) : exec .noByte s = .next (s.setSync s.st s.cnt false) := rfl

/-- RESET writes the sequencing state, the strobe and the Telemetry State. -/
theorem exec_reset (s : State) : exec .reset s = .next ((s.setSync .idle 0 false).setTlm Telemetry.reset) := rfl

/-- Settles O14: NOBYTE writes back the state and the count it read. -/
theorem noByteAndResetRows : Obligations.NoByteAndResetRows :=
  ⟨fun _ => ⟨rfl, rfl⟩, fun s => ⟨exec_noByte s, exec_reset s⟩⟩

/-- The 32-bit field is little-endian and cannot overflow (R33, R100). -/
theorem toNat_value32Of (f : Frame) :
    (value32Of f).toNat = f[4].toNat + 256 * f[5].toNat + 65536 * f[6].toNat + 16777216 * f[7].toNat :=
  toNat_le32 _ _ _ _

/-- Cutting the low half of a word is narrowing it to 16 bits. -/
theorem setWidth_eq_lowHalf (v : Word) : v.setWidth 16 = lowHalf v :=
  BitVec.eq_of_toNat_eq (BitVec.toNat_setWidth ..)

theorem exec_parseValue32 (s : State) :
    exec .parseValue32 s = .next (s.setOut { s.out with fValue32 := value32Of s.buf }) := rfl

/-- Settles O23: the two views of the payload share their low half. -/
theorem parseValue32Row : Obligations.ParseValue32Row := by
  refine ⟨fun p => rfl, fun s => ⟨value32Of s.buf, toNat_value32Of s.buf, ?lowHalf, exec_parseValue32 s⟩⟩
  case lowHalf => rw [setWidth_eq_lowHalf, lowHalf_value32Of]

/-- CLASS3.ALT_FIRST writes the altitude with the converted value. -/
theorem exec_class3AltFirst (value32 : Word) (s : State) :
    exec (.class3AltFirst value32) s =
      .next (s.setTlm { s.tlm with altitude := convertAlt32 s.params value32 }) := rfl

/-- Settles O28, by the two settings of the conversion. -/
theorem class3StoresTheConvertedAltitude : Obligations.Class3StoresTheConvertedAltitude := by
  refine ⟨fun _ _ hclass1 hhigh halt => decodeClass_altFirst _ hclass1 hhigh halt, fun value32 s =>
    ⟨convertAlt32 s.params value32, fun hconv => ?default, fun hconv => ?configured, exec_class3AltFirst value32 s⟩⟩
  case default => rw [convertAlt32, hconv, setWidth_eq_lowHalf]
  case configured => rw [convertAlt32, hconv]

section AltitudeRows
variable {s : State} (value : Half)

/-- Each altitude row writes the altitude under its own source and nothing under the other. -/
theorem exec_hubBaroAltAp_vario (hsrc : s.params.altSrc = .vario) :
    exec (.hubBaroAltAp value) s = .next (s.setTlm { s.tlm with altitude := centiScaled value }) := by
  simp only [exec, execHubBaroAltAp, hsrc]

theorem exec_hubBaroAltAp_gps (hsrc : s.params.altSrc = .gps) : exec (.hubBaroAltAp value) s = .next s := by
  simp only [exec, execHubBaroAltAp, hsrc]

theorem exec_hubGpsAltAp_vario (hsrc : s.params.altSrc = .vario) : exec (.hubGpsAltAp value) s = .next s := by
  simp only [exec, execHubGpsAltAp, hsrc]

theorem exec_hubGpsAltAp_gps (hsrc : s.params.altSrc = .gps) :
    exec (.hubGpsAltAp value) s = .next (s.setTlm { s.tlm with altitude := value }) := by
  simp only [exec, execHubGpsAltAp, hsrc]

end AltitudeRows

/-- Settles O30: the identifiers stand first and second in the table. -/
theorem altitudeRows : Obligations.AltitudeRows := fun value _ =>
  ⟨fun hok => ⟨decodeHub_of_getElem? hok (i := 0) rfl value, decodeHub_of_getElem? hok (i := 1) rfl value⟩,
    fun hsrc => ⟨centiScaled value, BitVec.toNat_ofNat .., exec_hubBaroAltAp_vario value hsrc,
      exec_hubGpsAltAp_vario value hsrc⟩,
    fun hsrc => ⟨exec_hubGpsAltAp_gps value hsrc, exec_hubBaroAltAp_gps value hsrc⟩⟩

/-- Settles O36: DISPATCH does what the class row does and what the leaf row does. -/
theorem groupRowsRefineToLeafRows : Obligations.GroupRowsRefineToLeafRows := by
  refine fun f s => ⟨exec_decodeGate_eq f s, fun hprim => ?_⟩
  calc exec (decodeClass s.params (appIdOf f) (value32Of f)) s
    _ = exec (.dispatch (appIdOf f) (value32Of f)) s := (exec_dispatch_eq_class s _ _).symm
    _ = exec (decodeData s.params (appIdOf f) (value32Of f)) s := execDispatch_eq_leaf _ _ s
    _ = exec (decodeFrame s.params f) s := by rw [decodeFrame_of_dataFrame hprim]

section Coordinate
variable (sign : HemiSign) (bp ap : Half)

/-- A coordinate is the signed sum of R135, reduced to 32 bits two's complement. -/
theorem toInt_coordinate (apScale : Nat) :
    (coordinate sign bp ap apScale).toInt = (sign.toInt * (bp.toNat * 1000000 + ap.toNat * apScale)).bmod (2 ^ 32) := by
  rw [coordinate, BitVec.toInt_ofInt]
  push_cast
  rfl

/-- Up to 2147 whole degrees the reduction loses nothing. -/
theorem toInt_coordinate_of_le (hbp : bp.toNat ≤ 2147) :
    (coordinate sign bp ap 1).toInt = sign.toInt * (bp.toNat * 1000000 + ap.toNat) := by
  have hap : ap.toNat < 65536 := ap.isLt
  rw [toInt_coordinate, Nat.cast_one, mul_one]
  cases sign with
  | unknown => simp [HemiSign.toInt]
  | plus => exact Int.bmod_eq_of_le (by simp only [HemiSign.toInt]; omega) (by simp only [HemiSign.toInt]; omega)
  | minus => exact Int.bmod_eq_of_le (by simp only [HemiSign.toInt]; omega) (by simp only [HemiSign.toInt]; omega)

/-- Before a hemisphere marker a coordinate is 0. -/
theorem coordinate_unknown (apScale : Nat) : coordinate .unknown bp ap apScale = 0 := by
  rw [coordinate, HemiSign.toInt, zero_mul]
  rfl

end Coordinate

/-- Settles O37: the two coordinates are the same function of their own components. -/
theorem accessorsReadTheTelemetry : Obligations.AccessorsReadTheTelemetry := by
  refine fun s => ⟨toInt_coordinate .., toInt_coordinate .., fun hscale hbp => ?lat, fun hscale hbp => ?lon,
    fun hsign => ?latUnknown, fun hsign => ?lonUnknown, rfl⟩
  case lat => rw [targetLatitude, hscale, toInt_coordinate_of_le _ _ _ hbp]
  case lon => rw [targetLongitude, hscale, toInt_coordinate_of_le _ _ _ hbp]
  case latUnknown => rw [targetLatitude, hsign, coordinate_unknown]
  case lonUnknown => rw [targetLongitude, hsign, coordinate_unknown]

end Sys2Proof.Machine
end

section
/-! One step (`40_synchronizer.md` R65, `41_checksum.md` R90, `43_telemetry_annex.md` R116 to R138): its parts in order, its frame,
and when it writes the Telemetry State. -/

namespace Sys2Proof.Machine

open Sys2Proof.Safety

/-- Settles O38: the frame row at the gate is the leaf row, and the output rows together drive every line. -/
theorem stepRunsTheDecodedRows : Obligations.StepRunsTheDecodedRows := by
  intro s
  simp only [step, cycle, runRows_frameRows, runRows_outputRows]
  rfl

/-- Settles O45: RESET leaves no strobe, so no frame row runs. -/
theorem resetStepBeatsTheByte : Obligations.ResetStepBeatsTheByte := by
  intro s hrst
  obtain ⟨t, hstep, h⟩ := exists_stepFacts s
  have hsync : t.sync = { s.sync with st := .idle, cnt := 0, fv := false } :=
    h.sync.trans (SyncPart.next_of_rst _ hrst)
  have hfv : t.fv = false := congrArg SyncPart.fv hsync
  refine ⟨t, hstep, congrArg SyncPart.st hsync, congrArg SyncPart.cnt hsync, hfv, congrArg SyncPart.buf hsync, ?ok, ?err,
    h.tlm_reset hrst, h.params, h.inputs⟩
  case ok => rw [h.out, hfv]; rfl
  case err => rw [h.out, hfv]; rfl

/-- Settles O46: a cycle stores at `cnt`, and only a data byte met in a frame, or leaves the buffer. -/
theorem stepFrame : Obligations.StepFrame := by
  intro s t hstep
  have h := stepFacts hstep
  refine ⟨fun j hj => ?others, fun hchanged => ?stored, h.params, h.inputs⟩
  case others =>
    rcases s.sync.next_cases (currentInput s) with hquiet | ⟨b, -, -, -, hstore⟩
    · rw [h.buf, hquiet.buf, sync_buf]
    · have hne : s.cnt.val ≠ j.val := fun heq => hj (Fin.ext heq.symm)
      have hbuf : t.buf = s.buf.set s.cnt.val (frameByte s.st b) s.cnt.isLt := by
        rw [h.buf, hstore, SyncPart.store_buf]; rfl
      rw [hbuf]
      exact Vector.getElem_set_ne s.cnt.isLt j.isLt hne
  case stored =>
    rcases s.sync.next_cases (currentInput s) with hquiet | ⟨b, hin, hdelim, hst, -⟩
    · exact absurd (h.buf.trans hquiet.buf) hchanged
    · rcases hst with ⟨hst, hesc⟩ | hst
      · exact ⟨by rw [← sync_st, hst]; decide, b, hin, hdelim, fun _ => hesc⟩
      · exact ⟨by rw [← sync_st, hst]; decide, b, hin, hdelim, fun hst' => by rw [← sync_st, hst] at hst'; cases hst'⟩

/-- The verdict lines of a completed frame (R90). -/
theorem verdict_of_good {f : Frame} (hok : chkOkOf f = true) :
    (outputsOf true f).frameOk = true ∧ (outputsOf true f).frameErr = false := by
  simp [outputsOf, hok]

theorem verdict_of_bad {f : Frame} (hbad : chkOkOf f = false) :
    (outputsOf true f).frameErr = true ∧ (outputsOf true f).frameOk = false := by
  simp [outputsOf, hbad]

section NinthByte

/-- The ninth data byte goes to index 8 and completes the frame. -/
theorem SyncPart.next_of_ninth (x : SyncPart) {b : Byte} (hdelim : b ≠ Config.delim) (hcnt : x.cnt.val = 8)
    (hst : (x.st = .inFrame ∧ b ≠ Config.esc) ∨ x.st = .escaped) :
    x.next (Input.byte b) = { buf := x.buf.set 8 (frameByte x.st b), st := .idle, cnt := 0, fv := true } := by
  rw [x.next_of_data hdelim hst, x.store_of_eq _ hcnt]
  simp [hcnt]

variable {s : State} {b : Byte}

/-- The step of a ninth data byte that makes a good frame: the frame is complete and accepted, and its row has run on the Telemetry
State of the state before (R119). -/
theorem step_of_good_ninth (hin : currentInput s = Input.byte b) (hdelim : b ≠ Config.delim) (hcnt : s.cnt.val = 8)
    (hst : (s.st = .inFrame ∧ b ≠ Config.esc) ∨ s.st = .escaped) {f : Frame}
    (hf : s.buf.set 8 (frameByte s.st b) = f) (hok : chkOkOf f = true) :
    ∃ t, step s = .next t ∧ t.sync = { buf := f, st := .idle, cnt := 0, fv := true } ∧ t.out = outputsOf true f ∧
      t.params = s.params ∧ exec (decodeFrame s.params f) s = .next (s.setTlm t.tlm) := by
  obtain ⟨t, hstep, h⟩ := exists_stepFacts s
  have hsync : t.sync = { buf := f, st := .idle, cnt := 0, fv := true } := by
    rw [h.sync, hin, s.sync.next_of_ninth hdelim hcnt hst, ← hf]
    rfl
  have hbuf : t.buf = f := congrArg SyncPart.buf hsync
  have hfv : t.fv = true := congrArg SyncPart.fv hsync
  have hrow := h.tlm_row (by rw [hin]; rfl) hfv (hbuf ▸ hok)
  have hout := h.out
  rw [hbuf] at hrow hout
  rw [hfv] at hout
  exact ⟨t, hstep, hsync, hout, h.params, hrow⟩

end NinthByte

/-- Settles O49. -/
theorem goodFrameUpdatesTelemetryInTheSameStep : Obligations.GoodFrameUpdatesTelemetryInTheSameStep := by
  intro s b hin hdelim hcnt hst x f hok
  obtain ⟨t, hstep, hsync, hout, hparams, hrow⟩ := step_of_good_ninth hin hdelim hcnt hst rfl hok
  obtain ⟨haccepted, hnoErr⟩ := verdict_of_good hok
  exact ⟨t, _, hstep, hrow, rfl, congrArg SyncPart.buf hsync, congrArg SyncPart.st hsync, congrArg SyncPart.cnt hsync,
    congrArg SyncPart.fv hsync, hout ▸ haccepted, hout ▸ hnoErr, hparams⟩

section FrameRowEffect
variable {s : State} {f : Frame} {u : Telemetry}

/-- A row without effect leaves the Telemetry State. -/
theorem tlm_eq_of_next {i : Instr} (hrow : exec i s = .next (s.setTlm u)) (hnone : exec i s = .next s) : u = s.tlm :=
  tlm_unique hrow hnone

/-- A DATA_FRAME's leaf row does what DISPATCH does. -/
theorem exec_decodeFrame_of_dataFrame (hprim : primOf f = Config.dataFrame) :
    exec (decodeFrame s.params f) s = exec (.dispatch (appIdOf f) (value32Of f)) s := by
  rw [decodeFrame_of_dataFrame hprim]
  exact (execDispatch_eq_leaf _ _ s).symm

theorem exec_decodeFrame_of_prim_ne (hprim : primOf f ≠ Config.dataFrame) :
    exec (decodeFrame s.params f) s = .next s := by
  rw [decodeFrame_of_prim_ne hprim, exec_frameNotData]

theorem exec_decodeFrame_of_class1 (h : appIdOf f = s.params.rssiId ∨ appIdOf f = s.params.swrId) :
    exec (decodeFrame s.params f) s = .next s := by
  by_cases hprim : primOf f = Config.dataFrame
  · rw [exec_decodeFrame_of_dataFrame hprim, exec_dispatch_eq_ite, if_pos h]
  · exact exec_decodeFrame_of_prim_ne hprim

/-- `is_legacy` is the test of the high byte of `appId` (R103, R120). -/
theorem isLegacyOf_iff (f : Frame) : isLegacyOf f = true ↔ highByte (appIdOf f) = 0 := by
  rw [isLegacyOf, beq_iff_eq, appIdOf, highByte_le16]

/-- A frame of no class but the fourth has no effect. -/
theorem exec_decodeFrame_of_class4 (hhigh : ¬ highByte (appIdOf f) = 0) (halt : appIdOf f ≠ s.params.altFirstId) :
    exec (decodeFrame s.params f) s = .next s := by
  by_cases hprim : primOf f = Config.dataFrame
  · rw [exec_decodeFrame_of_dataFrame hprim, exec_dispatch_eq_ite, if_neg hhigh, if_neg halt, ite_self]
  · exact exec_decodeFrame_of_prim_ne hprim

/-- A legacy frame has no effect, or the one of the Hub row its identifier selects. -/
theorem exec_decodeFrame_of_legacy (hlegacy : isLegacyOf f = true) :
    exec (decodeFrame s.params f) s = .next s ∨
      exec (decodeFrame s.params f) s = exec (decodeHub s.params (hubIdOf f) (value16Of f)) s := by
  by_cases hprim : primOf f = Config.dataFrame
  · by_cases hclass1 : appIdOf f = s.params.rssiId ∨ appIdOf f = s.params.swrId
    · exact .inl (exec_decodeFrame_of_class1 hclass1)
    · refine .inr ?_
      rw [exec_decodeFrame_of_dataFrame hprim, exec_dispatch_eq_ite, if_neg hclass1,
        if_pos ((isLegacyOf_iff f).mp hlegacy), exec_class2Hub, hubIdOf_eq_lowByte, lowHalf_value32Of]
  · exact .inl (exec_decodeFrame_of_prim_ne hprim)

/-- A frame whose row changes the Telemetry State is a DATA_FRAME of class 2 or 3. -/
theorem class_of_tlm_changed (hrow : exec (decodeFrame s.params f) s = .next (s.setTlm u)) (hne : u ≠ s.tlm) :
    primOf f = Config.dataFrame ∧ appIdOf f ≠ s.params.rssiId ∧ appIdOf f ≠ s.params.swrId ∧
      (isLegacyOf f = true ∨ appIdOf f = s.params.altFirstId) := by
  refine ⟨?dataFrame, fun hrssi => ?rssi, fun hswr => ?swr, ?class23⟩
  case dataFrame =>
    by_contra hprim
    exact hne (tlm_eq_of_next hrow (exec_decodeFrame_of_prim_ne hprim))
  case rssi => exact hne (tlm_eq_of_next hrow (exec_decodeFrame_of_class1 (.inl hrssi)))
  case swr => exact hne (tlm_eq_of_next hrow (exec_decodeFrame_of_class1 (.inr hswr)))
  case class23 =>
    rw [isLegacyOf_iff]
    by_contra hother
    obtain ⟨hhigh, halt⟩ := not_or.mp hother
    exact hne (tlm_eq_of_next hrow (exec_decodeFrame_of_class4 hhigh halt))

/-- The hemisphere flags set in `t` are set in `u`, and the signs known in `t` are known in `u` (R116). -/
structure KeepsHemispheres (t u : Telemetry) : Prop where
  hasLat : t.hasLat = true → u.hasLat = true
  hasLon : t.hasLon = true → u.hasLon = true
  latitudeSign : t.latitudeSign ≠ .unknown → u.latitudeSign ≠ .unknown
  longitudeSign : t.longitudeSign ≠ .unknown → u.longitudeSign ≠ .unknown

theorem KeepsHemispheres.refl (t : Telemetry) : KeepsHemispheres t t := ⟨id, id, id, id⟩

/-- The sign that a comparison chooses is known. -/
theorem ite_plus_minus_ne_unknown (c : Prop) [Decidable c] : (if c then HemiSign.plus else .minus) ≠ .unknown := by
  split <;> decide

/-- A row that names no hemisphere field keeps them all. -/
theorem keepsHemispheres_of_writes {i : Instr} (hrow : exec i s = .next (s.setTlm u))
    (hnot : ∀ k ∈ [TlmField.hasLat, .hasLon, .latitudeSign, .longitudeSign], k ∉ writes i) : KeepsHemispheres s.tlm u := by
  have hsame : ∀ k ∈ [TlmField.hasLat, .hasLon, .latitudeSign, .longitudeSign], sameField s.tlm u k :=
    fun k hk => rowsWriteOnlyTheFieldsTheyName i s _ hrow k (hnot k hk)
  have hlat : s.tlm.hasLat = u.hasLat := hsame .hasLat (by decide)
  have hlon : s.tlm.hasLon = u.hasLon := hsame .hasLon (by decide)
  have hlatSign : s.tlm.latitudeSign = u.latitudeSign := hsame .latitudeSign (by decide)
  have hlonSign : s.tlm.longitudeSign = u.longitudeSign := hsame .longitudeSign (by decide)
  exact ⟨fun h => hlat ▸ h, fun h => hlon ▸ h, fun h => hlatSign ▸ h, fun h => hlonSign ▸ h⟩

/-- No row of the Hub table loses a hemisphere: two of them write one, and write it known. -/
theorem keepsHemispheres_decodeHub {p : Params} {hubId : Byte} {value : Half}
    (hrow : exec (decodeHub p hubId value) s = .next (s.setTlm u)) : KeepsHemispheres s.tlm u := by
  unfold decodeHub at hrow
  cases hclass : classifyHub p hubId <;> rw [hclass] at hrow
  case gpsLongEw =>
    obtain rfl := tlm_unique (exec_hubGpsLongEw value s) hrow
    exact ⟨id, fun _ => rfl, id, fun _ => ite_plus_minus_ne_unknown _⟩
  case gpsLatNs =>
    obtain rfl := tlm_unique (exec_hubGpsLatNs value s) hrow
    exact ⟨fun _ => rfl, id, fun _ => ite_plus_minus_ne_unknown _, id⟩
  all_goals exact keepsHemispheres_of_writes hrow (by simp [writes])

/-- No frame's row loses a hemisphere. -/
theorem keepsHemispheres_decodeFrame {p : Params}
    (hrow : exec (decodeFrame p f) s = .next (s.setTlm u)) : KeepsHemispheres s.tlm u := by
  unfold decodeFrame at hrow
  split at hrow
  · unfold decodeData at hrow
    cases hclass : classify p (appIdOf f) <;> rw [hclass] at hrow
    case hub hubId => exact keepsHemispheres_decodeHub hrow
    all_goals exact keepsHemispheres_of_writes hrow (by simp [writes])
  · exact keepsHemispheres_of_writes hrow (by simp [writes])

end FrameRowEffect

/-- A step with no reset leaves the Telemetry State, or runs on it the row of the frame it has accepted. -/
theorem StepFacts.tlm_cases {s t : State} (h : StepFacts s t) (hrst : (currentInput s).rst = false) :
    t.tlm = s.tlm ∨ (t.fv = true ∧ chkOkOf t.buf = true ∧
      exec (decodeFrame s.params t.buf) s = .next (s.setTlm t.tlm)) := by
  by_cases hgood : t.fv = true ∧ chkOkOf t.buf = true
  · exact .inr ⟨hgood.1, hgood.2, h.tlm_row hrst hgood.1 hgood.2⟩
  · exact .inl (h.tlm_kept hrst hgood)

/-- Settles O50: without a reset only the row of an accepted frame changes the Telemetry State, and the lines show that frame. -/
theorem telemetryChangesOnlyByAcceptedDataFrames : Obligations.TelemetryChangesOnlyByAcceptedDataFrames := by
  intro s t hstep hne
  have h := stepFacts hstep
  cases hrst : (currentInput s).rst with
  | true => exact .inl rfl
  | false =>
    refine .inr ?_
    obtain hkept | ⟨hfv, hok, hrow⟩ := h.tlm_cases hrst
    · exact absurd hkept hne
    · obtain ⟨haccepted, -⟩ := verdict_of_good hok
      rw [h.out, hfv]
      exact ⟨haccepted, class_of_tlm_changed hrow hne⟩

/-- Settles O51: the row of the identifier that is not live has no effect. -/
theorem altitudeSourceIsolation : Obligations.AltitudeSourceIsolation := by
  intro s t hok hrst hstep _ hlegacy
  have h := stepFacts hstep
  rw [h.out] at hlegacy ⊢
  have kept_of_row : (∀ value, exec (decodeHub s.params (hubIdOf t.buf) value) s = .next s) →
      t.tlm.altitude = s.tlm.altitude := by
    intro hnone
    obtain hkept | ⟨-, -, hrow⟩ := h.tlm_cases hrst
    · rw [hkept]
    · obtain hno | hhub := exec_decodeFrame_of_legacy (s := s) (f := t.buf) hlegacy
      · rw [tlm_eq_of_next hrow hno]
      · rw [tlm_eq_of_next hrow (hhub.trans (hnone _))]
  refine ⟨fun hsrc hid => kept_of_row fun value => ?baro, fun hsrc hid => kept_of_row fun value => ?gps⟩
  case baro =>
    rw [show hubIdOf t.buf = s.params.baroAltApId from hid, decodeHub_of_getElem? hok (i := 0) rfl]
    exact exec_hubBaroAltAp_gps value hsrc
  case gps =>
    rw [show hubIdOf t.buf = s.params.gpsAltApId from hid, decodeHub_of_getElem? hok (i := 1) rfl]
    exact exec_hubGpsAltAp_vario value hsrc

/-- Settles O52. -/
theorem hemisphereFlagsStaySet : Obligations.HemisphereFlagsStaySet := by
  intro s t hrst hstep
  have hkeeps : KeepsHemispheres s.tlm t.tlm := by
    obtain hkept | ⟨-, -, hrow⟩ := (stepFacts hstep).tlm_cases hrst
    · rw [hkept]; exact .refl _
    · exact keepsHemispheres_decodeFrame hrow
  exact ⟨hkeeps.hasLat, hkeeps.hasLon, hkeeps.latitudeSign, hkeeps.longitudeSign⟩

section PlacedWords

/-- The row of a frame does not depend on its trailer. -/
theorem decodeFrame_set_eight (p : Params) (f : Frame) (t : Byte) : decodeFrame p (f.set 8 t) = decodeFrame p f := by
  have hprim : primOf (f.set 8 t) = primOf f := by simp [primOf]
  have happId : appIdOf (f.set 8 t) = appIdOf f := by simp [appIdOf]
  have hvalue : value32Of (f.set 8 t) = value32Of f := by simp [value32Of]
  rw [decodeFrame, decodeFrame, hprim, happId, hvalue]

/-- The frame that `presentFrame` completes is good. -/
theorem chkOkOf_set_goodTrailer (f : Frame) : chkOkOf (f.set 8 (goodTrailer f)) = true := by
  unfold goodTrailer
  split
  · next hok =>
    rw [trailerOf, Vector.set_getElem_self]
    exact hok
  · exact chkOkOf_set_trailerFor f

/-- The stuffing mask is its own inverse. -/
theorem destuffed_destuffed (b : Byte) : destuffed (destuffed b) = b := by
  rw [destuffed, destuffed, BitVec.xor_assoc, BitVec.xor_self, BitVec.xor_zero]

/-- What `presentFrame` places: eight bytes of the frame, and on the port the byte that stores its trailer. -/
theorem presentFrame_spec (s : State) (f : Frame) :
    ∃ b, currentInput (presentFrame s f) = Input.byte b ∧ b ≠ Config.delim ∧
      (((presentFrame s f).st = .inFrame ∧ b ≠ Config.esc) ∨ (presentFrame s f).st = .escaped) ∧
      frameByte (presentFrame s f).st b = goodTrailer f ∧
      (presentFrame s f).cnt = 8 ∧ (presentFrame s f).buf = f ∧ (presentFrame s f).tlm = s.tlm ∧
      (presentFrame s f).params = s.params := by
  unfold presentFrame
  by_cases hstuff : goodTrailer f = Config.delim ∨ goodTrailer f = Config.esc
  · rw [if_pos hstuff]
    have hdelim : destuffed (goodTrailer f) ≠ Config.delim := by
      rcases hstuff with h | h <;> rw [h] <;> decide
    exact ⟨_, rfl, hdelim, .inr rfl, destuffed_destuffed _, rfl, rfl, rfl, rfl⟩
  · obtain ⟨hdelim, hesc⟩ := not_or.mp hstuff
    rw [if_neg hstuff]
    exact ⟨_, rfl, hdelim, .inl ⟨rfl, hesc⟩, rfl, rfl, rfl, rfl, rfl⟩

/-- A table word of up to eight bits decodes as a byte read in its state. -/
theorem decodeTableWord_byte {nbits w : Nat} {i : Instr} (hbits : nbits ≤ 8) (h : decodeTableWord nbits w = some i) :
    decodeByte (tableState (BitVec.ofNat 8 w)) (BitVec.ofNat 8 w) = i := by
  unfold decodeTableWord at h
  rw [if_pos hbits] at h
  split at h
  · cases h
  · exact Option.some.inj h

/-- A longer table word decodes, at the gate or to its leaf row, to what does the same as the leaf row of its frame. -/
theorem exec_decodeTableWord_frame {nbits w : Nat} {i : Instr} (hbits : 8 < nbits) (h : decodeTableWord nbits w = some i)
    {s : State} (hparams : s.params = Params.default) : exec i s = exec (decodeFrame s.params (frameOfNat w)) s := by
  unfold decodeTableWord at h
  rw [if_neg (by omega), if_neg (by omega)] at h
  split_ifs at h
  · obtain rfl := Option.some.inj h
    exact exec_decodeGate_eq _ s
  · obtain rfl := Option.some.inj h
    rw [hparams]

end PlacedWords

/-- Settles O40: a byte selects its row in the state it is placed in; a frame is completed by the byte placed on the port, with a good
trailer, on which its row does not depend. -/
theorem placedTableWordsRun : Obligations.PlacedTableWordsRun := by
  refine fun s nbits w i hparams hword => ⟨fun hbits => ?byte, fun hbits => ?frame⟩
  case byte =>
    have hplaced : s.withFetchWord nbits w =
        presentByte { s with st := tableState (BitVec.ofNat 8 w) } (BitVec.ofNat 8 w) := if_pos hbits
    rw [hplaced]
    exact decodeTableWord_byte hbits hword
  case frame =>
    have hplaced : s.withFetchWord nbits w = presentFrame s (frameOfNat w) := if_neg (by omega)
    obtain ⟨b, hin, hdelim, hst, hbyte, hcnt, hbuf, htlm, hparams'⟩ := presentFrame_spec s (frameOfNat w)
    rw [hplaced]
    generalize presentFrame s (frameOfNat w) = s' at *
    obtain ⟨t, hstep, hsync, hout, -, hrow⟩ :=
      step_of_good_ninth hin hdelim (congrArg Fin.val hcnt) hst rfl (by rw [hbuf, hbyte]; exact chkOkOf_set_goodTrailer _)
    rw [hbuf, hbyte] at hsync hout hrow
    rw [decodeFrame_set_eight, ← exec_decodeTableWord_frame hbits hword (hparams'.trans hparams)] at hrow
    refine ⟨s', t, hrow, htlm, hparams', hstep, ?accepted, fun j hj => ?bytes⟩
    case accepted =>
      obtain ⟨haccepted, -⟩ := verdict_of_good (chkOkOf_set_goodTrailer (frameOfNat w))
      exact hout ▸ haccepted
    case bytes =>
      have hbuf' : t.buf = (frameOfNat w).set 8 (goodTrailer (frameOfNat w)) := congrArg SyncPart.buf hsync
      rw [hbuf']
      exact Vector.getElem_set_ne (by decide) j.isLt (by omega)

end Sys2Proof.Machine
end

section
/-! Runs of many cycles (`00_scope.md` R6, `10_state.md` R14, `20_memory.md` R37, `40_synchronizer.md` R75): how a run is taken apart,
and what is kept along it. -/

namespace Sys2Proof.Machine

open Sys2Proof.Safety

section Run

/-- A run's first cycle, taken off. -/
theorem run_succ_eq_next {k : Nat} {s t : State} (h : run (k + 1) s = .next t) :
    ∃ s1, step s = .next s1 ∧ run k s1 = .next t := by
  obtain ⟨s1, hstep⟩ := step_next s
  exact ⟨s1, hstep, by rwa [run_succ k hstep] at h⟩

/-- One cycle is a step. -/
theorem run_one {s t : State} (h : step s = .next t) : run 1 s = .next t := by
  rw [run_succ 0 h, run_zero]

/-- A run goes on from where a shorter one ends. -/
theorem run_add {k : Nat} {s u : State} (h : run k s = .next u) (m : Nat) : run (k + m) s = run m u := by
  induction k generalizing s with
  | zero =>
    obtain rfl : s = u := Host.Outcome.next.inj h
    rw [Nat.zero_add]
  | succ k ih =>
    obtain ⟨s1, hstep, hrest⟩ := run_succ_eq_next h
    rw [Nat.add_right_comm, run_succ _ hstep, ih hrest]

/-- Output lines that show the state go on showing it. -/
theorem run_keeps_outputs {k : Nat} {s t : State} (h : run k s = .next t) (hs : s.out = outputsOf s.fv s.buf) :
    t.out = outputsOf t.fv t.buf := by
  induction k generalizing s with
  | zero =>
    obtain rfl : s = t := Host.Outcome.next.inj h
    exact hs
  | succ k ih =>
    obtain ⟨s1, hstep, hrest⟩ := run_succ_eq_next h
    exact ih hrest (stepFacts hstep).out

/-- After at least one cycle the output lines show the state. -/
theorem run_succ_outputs {k : Nat} {s t : State} (h : run (k + 1) s = .next t) : t.out = outputsOf t.fv t.buf := by
  obtain ⟨s1, hstep, hrest⟩ := run_succ_eq_next h
  exact run_keeps_outputs hrest (stepFacts hstep).out

/-- A cycle after the last pending input is an empty one; any other takes the first of them. -/
theorem rst_currentInput_of_take {s : State} {n : Nat} (h : ∀ i ∈ s.inputs.take (n + 1), i.rst = false) :
    (currentInput s).rst = false := by
  unfold currentInput
  cases hin : s.inputs with
  | nil => rfl
  | cons i is => exact h i (by simp [hin])

/-- The Telemetry State of a run with no reset in it and no accepted DATA_FRAME is the one it started with. -/
theorem run_keeps_tlm {n : Nat} {s t : State} (hrst : ∀ i ∈ s.inputs.take n, i.rst = false) (hrun : run n s = .next t)
    (hno : ∀ k u, 1 ≤ k → k ≤ n → run k s = .next u → u.out.frameOk = true → u.out.isDataFrame = false) :
    t.tlm = s.tlm := by
  induction n generalizing s with
  | zero => rw [Host.Outcome.next.inj hrun]
  | succ n ih =>
    obtain ⟨s1, hstep, hrest⟩ := run_succ_eq_next hrun
    have h := stepFacts hstep
    have hfirst : s1.tlm = s.tlm := by
      by_contra hne
      obtain hreset | ⟨hok, hprim, -⟩ := telemetryChangesOnlyByAcceptedDataFrames s s1 hstep hne
      · exact Bool.false_ne_true ((rst_currentInput_of_take hrst).symm.trans hreset)
      · have hnot := hno 1 s1 le_rfl (by omega) (run_one hstep) hok
        rw [h.out] at hprim hnot
        exact Bool.false_ne_true (hnot.symm.trans (beq_iff_eq.mpr hprim))
    have htail : ∀ i ∈ s1.inputs.take n, i.rst = false := by
      intro i hi
      refine hrst i ?_
      rw [h.inputs] at hi
      cases hin : s.inputs with
      | nil => rw [hin] at hi; simp at hi
      | cons j js => rw [hin] at hi; exact List.mem_cons_of_mem j hi
    rw [ih htail hrest fun k u hk hkn hu => hno (k + 1) u (by omega) (by omega) (by rw [run_succ k hstep, hu]), hfirst]

/-- Where the strobe is never up no frame is accepted. -/
theorem run_keeps_tlm_of_no_strobe {n : Nat} {s t : State} (hrst : ∀ i ∈ s.inputs.take n, i.rst = false)
    (hrun : run n s = .next t) (hno : ∀ k u, 1 ≤ k → k ≤ n → run k s = .next u → u.fv = false) : t.tlm = s.tlm := by
  refine run_keeps_tlm hrst hrun fun k u hk hkn hu hok => ?_
  obtain ⟨k, rfl⟩ : ∃ m, k = m + 1 := ⟨k - 1, by omega⟩
  rw [run_succ_outputs hu, hno _ u hk hkn hu] at hok
  exact absurd hok Bool.false_ne_true

/-- With the coming inputs `xs`, as many cycles move SYNC's part along `xs`. -/
theorem exists_run_inputs {xs rest : List Input} {s : State} (h : s.inputs = xs ++ rest) :
    ∃ t, run xs.length s = .next t ∧ t.sync = xs.foldl SyncPart.next s.sync ∧ t.params = s.params ∧ t.inputs = rest := by
  induction xs generalizing s with
  | nil => exact ⟨s, rfl, rfl, rfl, h⟩
  | cons x xs ih =>
    obtain ⟨s1, hstep, h1⟩ := exists_stepFacts s
    have hin : currentInput s = x := by rw [currentInput, h]; rfl
    obtain ⟨t, hrun, hsync, hparams, hrest⟩ := ih (by rw [h1.inputs, h]; rfl)
    refine ⟨t, ?_, ?_, hparams.trans h1.params, hrest⟩
    · rw [List.length_cons, run_succ _ hstep, hrun]
    · rw [hsync, h1.sync, hin, List.foldl_cons]

end Run

/-- Settles O60. -/
theorem noAcceptedDataFrameNoTelemetry : Obligations.NoAcceptedDataFrameNoTelemetry :=
  fun _ _ _ hrst hrun hno => run_keeps_tlm (fun i hi => hrst i (List.mem_of_mem_take hi)) hrun hno

section FrameGap

/-- Outside IDLE fewer than `n` bytes are stored. -/
def SyncPart.StoredFewer (n : Nat) (x : SyncPart) : Prop := x.st ≠ .idle → x.cnt.val < n

variable {n : Nat} {x : SyncPart}

/-- A cycle stores at most one byte. -/
theorem next_storedFewer (h : x.StoredFewer n) (i : Input) : (x.next i).StoredFewer (n + 1) := by
  intro hst
  rcases x.next_cases i with hquiet | ⟨b, -, -, hst', hstore⟩
  · rcases hquiet.cnt with hzero | ⟨hsame, hidle⟩
    · rw [hzero]; exact Nat.succ_pos n
    · rw [hsame]
      exact Nat.lt_succ_of_lt (h fun hx => hst (hidle.mpr hx))
  · rw [hstore]
    by_cases hcnt : x.cnt.val < 8
    · have hlt : x.cnt.val < n := h fun hx => by rcases hst' with ⟨hx', -⟩ | hx' <;> rw [hx] at hx' <;> cases hx'
      rw [x.store_of_lt _ hcnt]
      exact Nat.succ_lt_succ hlt
    · rw [x.store_of_eq _ (by omega)]
      exact Nat.succ_pos n

/-- With fewer than eight bytes stored no byte completes a frame. -/
theorem next_no_strobe (h : x.StoredFewer n) (hn : n ≤ 8) (i : Input) : (x.next i).fv = false := by
  rcases x.next_cases i with hquiet | ⟨b, -, -, hst', hstore⟩
  · exact hquiet.fv
  · have hlt : x.cnt.val < n := h fun hx => by rcases hst' with ⟨hx', -⟩ | hx' <;> rw [hx] at hx' <;> cases hx'
    rw [hstore, x.store_of_lt _ (by omega)]

/-- From fewer than `n` stored bytes no frame completes within `9 - n` cycles. -/
theorem run_no_strobe {k : Nat} {s t : State} (h : s.sync.StoredFewer n) (hk : 1 ≤ k) (hkn : n + k ≤ 9)
    (hrun : run k s = .next t) : t.fv = false := by
  induction k generalizing s n with
  | zero => omega
  | succ k ih =>
    obtain ⟨s1, hstep, hrest⟩ := run_succ_eq_next hrun
    have h1 := stepFacts hstep
    cases k with
    | zero =>
      obtain rfl : s1 = t := Host.Outcome.next.inj hrest
      exact h1.fv.trans (next_no_strobe h (by omega) _)
    | succ k =>
      have hnext : s1.sync.StoredFewer (n + 1) := h1.sync ▸ next_storedFewer h _
      exact ih hnext (by omega) (by omega) hrest

end FrameGap

/-- Settles O53: at the strobe SYNC is in IDLE, with no byte of the next frame stored. -/
theorem tenStepsBetweenTwoFrames : Obligations.TenStepsBetweenTwoFrames := by
  intro s t k hinv hfv hk hk9 hrun
  have hidle : s.sync.StoredFewer 0 := fun hst => absurd (hinv.strobe_is_idle hfv) hst
  exact run_no_strobe hidle hk (by omega) hrun

section Forgetting

/-- Two parts that only differ in bytes of the buffer that are not of the frame being received, or of the frame just received. -/
structure SyncPart.Alike (x y : SyncPart) : Prop where
  st : x.st = y.st
  cnt : x.cnt = y.cnt
  fv : x.fv = y.fv
  stored : x.st ≠ .idle → ∀ j (hj : j < 9), j < x.cnt.val → x.buf[j] = y.buf[j]
  frame : x.fv = true → x.buf = y.buf

variable {x y : SyncPart}

/-- Parts in the same state with the same count, and alike in the bytes stored, are alike after one more byte. -/
theorem alike_store (hcnt : x.cnt = y.cnt) (h : ∀ j (hj : j < 9), j < x.cnt.val → x.buf[j] = y.buf[j]) (b : Byte) :
    (x.store b).Alike (y.store b) := by
  have hbytes : ∀ j (hj : j < 9), j ≤ x.cnt.val → (x.store b).buf[j] = (y.store b).buf[j] := by
    intro j hj hle
    simp only [SyncPart.store_buf, Vector.getElem_set, hcnt]
    split
    · rfl
    · exact h j hj (by omega)
  by_cases hlt : x.cnt.val < 8
  · have hx := x.store_of_lt b hlt
    have hy := y.store_of_lt b (hcnt ▸ hlt)
    refine ⟨by rw [hx, hy], by rw [hx, hy]; simp [hcnt], by rw [hx, hy], fun _ j hj hj' => hbytes j hj ?_,
      fun hfv => ?_⟩
    · rw [hx] at hj'
      exact Nat.lt_succ_iff.mp hj'
    · rw [hx] at hfv
      cases hfv
  · have heq : x.cnt.val = 8 := by omega
    have hx := x.store_of_eq b heq
    have hy := y.store_of_eq b (hcnt ▸ heq)
    refine ⟨by rw [hx, hy], by rw [hx, hy], by rw [hx, hy], fun hst => ?_, fun _ => ?_⟩
    · rw [hx] at hst
      exact absurd rfl hst
    · exact Vector.ext fun j hj => hbytes j hj (by omega)

/-- A cycle with the same input leaves alike parts alike. -/
theorem alike_next (h : x.Alike y) (i : Input) : (x.next i).Alike (y.next i) := by
  obtain ⟨bufx, st, n, v⟩ := x
  obtain ⟨bufy, st', n', v'⟩ := y
  obtain ⟨hst, hcnt, -, hstored, -⟩ := h
  cases hst; cases hcnt
  obtain ⟨st', n', hn, hnext⟩ | ⟨b, -, -, hframe, hnext⟩ := SyncPart.next_uniform st n i
  · rw [hnext, hnext]
    refine ⟨rfl, rfl, rfl, fun hst j hj hlt => ?_, fun hfv => absurd hfv Bool.false_ne_true⟩
    rcases hn with rfl | ⟨rfl, hidle⟩
    · exact absurd hlt (Nat.not_lt_zero j)
    · exact hstored (fun h => hst (hidle.mpr h)) j hj hlt
  · have hne : st ≠ .idle := by rcases hframe with ⟨rfl, -⟩ | rfl <;> decide
    rw [hnext, hnext]
    exact alike_store (x := ⟨bufx, st, n, v⟩) (y := ⟨bufy, st, n, v'⟩) rfl (hstored hne) _

/-- Runs with the same inputs from alike parts end in alike parts. -/
theorem alike_run {k : Nat} {s1 s2 : State} (h : s1.sync.Alike s2.sync) (hin : s1.inputs = s2.inputs) :
    ∃ t1 t2, run k s1 = .next t1 ∧ run k s2 = .next t2 ∧ t1.sync.Alike t2.sync := by
  induction k generalizing s1 s2 with
  | zero => exact ⟨s1, s2, rfl, rfl, h⟩
  | succ k ih =>
    obtain ⟨u1, hstep1, h1⟩ := exists_stepFacts s1
    obtain ⟨u2, hstep2, h2⟩ := exists_stepFacts s2
    have hcur : currentInput s1 = currentInput s2 := by rw [currentInput, currentInput, hin]
    have hnext : u1.sync.Alike u2.sync := by
      rw [h1.sync, h2.sync, hcur]
      exact alike_next h _
    rw [run_succ k hstep1, run_succ k hstep2]
    exact ih hnext (by rw [h1.inputs, h2.inputs, hin])

/-- A delimiter leaves any two parts alike: no byte is stored. -/
theorem alike_delim (x y : SyncPart) : (x.next (Input.byte Config.delim)).Alike (y.next (Input.byte Config.delim)) := by
  rw [x.next_delim, y.next_delim]
  exact ⟨rfl, rfl, rfl, fun _ j _ hlt => absurd hlt (Nat.not_lt_zero j), fun hfv => absurd hfv Bool.false_ne_true⟩

end Forgetting

/-- Settles O55: what the delimiter leaves is alike, and stays alike along the rest. -/
theorem delimiterForgetsThePast : Obligations.DelimiterForgetsThePast := by
  intro s1 s2 rest k hin1 hin2
  obtain ⟨u1, hstep1, h1⟩ := exists_stepFacts s1
  obtain ⟨u2, hstep2, h2⟩ := exists_stepFacts s2
  have hcur1 : currentInput s1 = Input.byte Config.delim := by rw [currentInput, hin1]; rfl
  have hcur2 : currentInput s2 = Input.byte Config.delim := by rw [currentInput, hin2]; rfl
  have hopen : u1.sync = { s1.sync with st := .inFrame, cnt := 0, fv := false } := by
    rw [h1.sync, hcur1, SyncPart.next_delim]
  have halike : u1.sync.Alike u2.sync := by
    rw [h1.sync, h2.sync, hcur1, hcur2]
    exact alike_delim _ _
  obtain ⟨t1, t2, hrun1, hrun2, h⟩ := alike_run (k := k) halike (by rw [h1.inputs, h2.inputs, hin1, hin2])
  have hrun1' : run (k + 1) s1 = .next t1 := by rw [run_succ k hstep1, hrun1]
  have hrun2' : run (k + 1) s2 = .next t2 := by rw [run_succ k hstep2, hrun2]
  refine ⟨t1, t2, hrun1', hrun2', fun hk => ?first, h.st, h.cnt, h.fv, fun hfv => ⟨h.frame hfv, ?lines⟩⟩
  case first =>
    subst hk
    obtain rfl : u1 = t1 := Host.Outcome.next.inj hrun1
    exact ⟨congrArg SyncPart.st hopen, congrArg SyncPart.cnt hopen, congrArg SyncPart.fv hopen⟩
  case lines =>
    have hbuf : t1.buf = t2.buf := h.frame hfv
    have hfv' : t1.fv = t2.fv := h.fv
    rw [run_succ_outputs hrun1', run_succ_outputs hrun2', hbuf, hfv']

section EmptyCycles

/-- Two states that only differ in the strobe, the output lines and what is to come. -/
structure SameButStrobe (s u : State) : Prop where
  buf : s.buf = u.buf
  st : s.st = u.st
  cnt : s.cnt = u.cnt
  tlm : s.tlm = u.tlm
  params : s.params = u.params

variable {s t s' t' : State}

/-- A step with the same input leaves such states such states. -/
theorem sameButStrobe_step (h : SameButStrobe s s') (hin : currentInput s = currentInput s') (ht : StepFacts s t)
    (ht' : StepFacts s' t') : SameButStrobe t t' := by
  have hsync : t.sync = t'.sync := by
    rw [ht.sync, ht'.sync, hin]
    exact SyncPart.next_congr h.buf h.st h.cnt _
  have hbuf : t.buf = t'.buf := congrArg SyncPart.buf hsync
  have hfv : t.fv = t'.fv := congrArg SyncPart.fv hsync
  have htlm : t.tlm = t'.tlm := by
    cases hrst : (currentInput s).rst with
    | true => rw [ht.tlm_reset hrst, ht'.tlm_reset (hin ▸ hrst)]
    | false =>
      have hrst' : (currentInput s').rst = false := hin ▸ hrst
      by_cases hgood : t.fv = true ∧ chkOkOf t.buf = true
      · obtain ⟨hstrobe, hok⟩ := hgood
        have hrow := ht.tlm_row hrst hstrobe hok
        have hrow' := ht'.tlm_row hrst' (hfv ▸ hstrobe) (hbuf ▸ hok)
        rw [← h.params, ← hbuf] at hrow'
        exact tlm_unique (exec_decodeFrame_congr h.tlm.symm h.params.symm hrow) hrow'
      · rw [ht.tlm_kept hrst hgood, ht'.tlm_kept hrst' (hfv ▸ hbuf ▸ hgood), h.tlm]
  exact ⟨hbuf, congrArg SyncPart.st hsync, congrArg SyncPart.cnt hsync, htlm, ht.params.trans (h.params.trans ht'.params.symm)⟩

/-- An empty cycle changes the strobe alone. -/
theorem sameButStrobe_empty (hin : currentInput s = Input.none) (ht : StepFacts s t) : SameButStrobe t s := by
  have hsync : t.sync = { s.sync with fv := false } := by rw [ht.sync, hin, SyncPart.next_none]
  have hfv : t.fv = false := congrArg SyncPart.fv hsync
  have htlm : t.tlm = s.tlm :=
    ht.tlm_kept (by rw [hin]; rfl) fun ⟨hstrobe, _⟩ => Bool.false_ne_true (hfv.symm.trans hstrobe)
  exact ⟨congrArg SyncPart.buf hsync, congrArg SyncPart.st hsync, congrArg SyncPart.cnt hsync, htlm, ht.params⟩

theorem SameButStrobe.trans {u : State} (h : SameButStrobe s t) (h' : SameButStrobe t u) : SameButStrobe s u :=
  ⟨h.buf.trans h'.buf, h.st.trans h'.st, h.cnt.trans h'.cnt, h.tlm.trans h'.tlm, h.params.trans h'.params⟩

/-- A stream and the stream without its empty cycles end in states that only differ in the strobe and the lines. -/
theorem sameButStrobe_run {xs : List Input} (h : SameButStrobe s s') (hin : s.inputs = xs)
    (hin' : s'.inputs = xs.filter (· != Input.none)) :
    ∃ t t', run xs.length s = .next t ∧ run (xs.filter (· != Input.none)).length s' = .next t' ∧ SameButStrobe t t' := by
  induction xs generalizing s s' with
  | nil => exact ⟨s, s', rfl, rfl, h⟩
  | cons x xs ih =>
    obtain ⟨s1, hstep, h1⟩ := exists_stepFacts s
    have hcur : currentInput s = x := by rw [currentInput, hin]; rfl
    have hin1 : s1.inputs = xs := by rw [h1.inputs, hin]; rfl
    rw [List.length_cons, run_succ _ hstep]
    by_cases hx : x = Input.none
    · rw [List.filter_cons_of_neg (by simp [hx])] at hin' ⊢
      exact ih ((sameButStrobe_empty (hcur.trans hx) h1).trans h) hin1 hin'
    · rw [List.filter_cons_of_pos (by simp [hx])] at hin' ⊢
      obtain ⟨s1', hstep', h1'⟩ := exists_stepFacts s'
      have hcur' : currentInput s' = x := by rw [currentInput, hin']; rfl
      rw [List.length_cons, run_succ _ hstep']
      exact ih (sameButStrobe_step h (hcur.trans hcur'.symm) h1 h1') hin1 (by rw [h1'.inputs, hin']; rfl)

end EmptyCycles

/-- Settles O59. -/
theorem emptyCyclesChangeNothingButTheStrobe : Obligations.EmptyCyclesChangeNothingButTheStrobe := by
  intro s xs
  obtain ⟨t, u, hrun, hrun', h⟩ := sameButStrobe_run (s := { s with inputs := xs })
    (s' := { s with inputs := xs.filter (· != Input.none) }) ⟨rfl, rfl, rfl, rfl, rfl⟩ rfl rfl
  refine ⟨t, u, hrun, hrun', h.buf, h.st, h.cnt, h.tlm, h.params, fun hinv => ?_⟩
  rw [run_keeps_outputs hrun hinv.outputs_show, run_keeps_outputs hrun' hinv.outputs_show, h.buf]
  rfl

end Sys2Proof.Machine
end

section
/-! Byte stuffing (`30_encoding.md` R47, R48, R57): the reference destuffer taken byte by byte, and the sender's stuffing undone. -/

namespace Sys2Proof.Machine

open Sys2Proof.Safety

section Destuff

/-- A byte that is no escape marker is itself. -/
theorem destuff_cons_of_ne {b : Byte} (h : b ≠ Config.esc) (bs : List Byte) : destuff (b :: bs) = b :: destuff bs := by
  cases bs with
  | nil => exact if_neg h
  | cons c rest => exact if_neg h

theorem escapePending_cons_of_ne {b : Byte} (h : b ≠ Config.esc) (bs : List Byte) :
    escapePending (b :: bs) = escapePending bs := by
  cases bs with
  | nil => exact beq_eq_false_iff_ne.mpr h
  | cons c rest => exact if_neg h

/-- An escape marker takes the byte after it. -/
@[simp] theorem destuff_esc (c : Byte) (rest : List Byte) :
    destuff (Config.esc :: c :: rest) = destuffed c :: destuff rest := if_pos rfl

@[simp] theorem escapePending_esc (c : Byte) (rest : List Byte) :
    escapePending (Config.esc :: c :: rest) = escapePending rest := if_pos rfl

/-- A list taken as the destuffer takes it: an escape marker alone, one with the byte after it, or another byte. -/
theorem escape_induction {P : List Byte → Prop} (nil : P []) (esc : P [Config.esc])
    (escaped : ∀ c rest, P rest → P (Config.esc :: c :: rest))
    (plain : ∀ b rest, b ≠ Config.esc → P rest → P (b :: rest)) (bs : List Byte) : P bs := by
  induction bs using destuff.induct with
  | case1 => exact nil
  | case2 => exact esc
  | case3 b h => exact plain b [] h nil
  | case4 c rest ih => exact escaped c rest ih
  | case5 b c rest h ih => exact plain b (c :: rest) h ih

/-- One more byte after a pending escape marker is destuffed. -/
theorem destuff_append_of_pending {bs : List Byte} (h : escapePending bs = true) (b : Byte) :
    destuff (bs ++ [b]) = destuff bs ++ [destuffed b] ∧ escapePending (bs ++ [b]) = false := by
  induction bs using escape_induction with
  | nil => cases h
  | esc => exact ⟨rfl, rfl⟩
  | escaped c rest ih =>
    rw [escapePending_esc] at h
    simp [ih h]
  | plain a rest ha ih =>
    rw [escapePending_cons_of_ne ha] at h
    rw [List.cons_append, destuff_cons_of_ne ha, destuff_cons_of_ne ha, escapePending_cons_of_ne ha]
    simp [ih h]

/-- Where no escape marker is pending the destuffer starts afresh. -/
theorem destuff_append_of_not_pending {bs : List Byte} (h : escapePending bs = false) (cs : List Byte) :
    destuff (bs ++ cs) = destuff bs ++ destuff cs ∧ escapePending (bs ++ cs) = escapePending cs := by
  induction bs using escape_induction with
  | nil => exact ⟨rfl, rfl⟩
  | esc => cases h
  | escaped c rest ih =>
    rw [escapePending_esc] at h
    simp [ih h]
  | plain a rest ha ih =>
    rw [escapePending_cons_of_ne ha] at h
    rw [List.cons_append, destuff_cons_of_ne ha, destuff_cons_of_ne ha, escapePending_cons_of_ne ha]
    simp [ih h]

/-- There an escape marker is one that is pending. -/
theorem destuff_append_esc {bs : List Byte} (h : escapePending bs = false) :
    destuff (bs ++ [Config.esc]) = destuff bs ∧ escapePending (bs ++ [Config.esc]) = true := by
  obtain ⟨hdestuff, hpending⟩ := destuff_append_of_not_pending h [Config.esc]
  exact ⟨hdestuff.trans (List.append_nil _), hpending⟩

/-- There any other byte is itself. -/
theorem destuff_append_of_ne {bs : List Byte} (h : escapePending bs = false) {b : Byte} (hb : b ≠ Config.esc) :
    destuff (bs ++ [b]) = destuff bs ++ [b] ∧ escapePending (bs ++ [b]) = false := by
  obtain ⟨hdestuff, hpending⟩ := destuff_append_of_not_pending h [b]
  rw [hdestuff, hpending, destuff_cons_of_ne hb, escapePending_cons_of_ne hb]
  exact ⟨rfl, rfl⟩

/-- Bytes that are no escape markers destuff to themselves. -/
theorem destuff_of_plain {bs : List Byte} (h : ∀ b ∈ bs, b ≠ Config.esc) :
    destuff bs = bs ∧ escapePending bs = false := by
  induction bs with
  | nil => exact ⟨rfl, rfl⟩
  | cons b bs ih =>
    obtain ⟨hb, hbs⟩ := List.forall_mem_cons.mp h
    obtain ⟨hdestuff, hpending⟩ := ih hbs
    exact ⟨by rw [destuff_cons_of_ne hb, hdestuff], by rw [escapePending_cons_of_ne hb, hpending]⟩

end Destuff

section Stuff

theorem stuff_cons (b : Byte) (bs : List Byte) : stuff (b :: bs) = stuffByte b ++ stuff bs := rfl

/-- A stuffed byte: the byte itself, or the escape marker and the byte with the mask, neither of them a delimiter. -/
theorem stuffByte_cases (b : Byte) :
    (stuffByte b = [b] ∧ b ≠ Config.delim ∧ b ≠ Config.esc) ∨
      (stuffByte b = [Config.esc, destuffed b] ∧ destuffed b ≠ Config.delim) := by
  unfold stuffByte
  split
  · next h => exact .inr ⟨rfl, by rcases h with rfl | rfl <;> decide⟩
  · next h =>
    obtain ⟨hdelim, hesc⟩ := not_or.mp h
    exact .inl ⟨rfl, hdelim, hesc⟩

/-- The destuffer reads back a stuffed byte, and goes on with what follows it. -/
theorem destuff_stuffByte_append (b : Byte) (bs : List Byte) :
    destuff (stuffByte b ++ bs) = b :: destuff bs ∧ escapePending (stuffByte b ++ bs) = escapePending bs := by
  rcases stuffByte_cases b with ⟨h, -, hesc⟩ | ⟨h, -⟩
  · rw [h]
    exact ⟨destuff_cons_of_ne hesc bs, escapePending_cons_of_ne hesc bs⟩
  · rw [h]
    show destuff (Config.esc :: destuffed b :: bs) = _ ∧ escapePending (Config.esc :: destuffed b :: bs) = _
    rw [destuff_esc, escapePending_esc, destuffed_destuffed]
    exact ⟨rfl, rfl⟩

/-- Destuffing undoes stuffing, and no escape marker is left pending. -/
theorem destuff_stuff (bs : List Byte) : destuff (stuff bs) = bs ∧ escapePending (stuff bs) = false := by
  induction bs with
  | nil => exact ⟨rfl, rfl⟩
  | cons b bs ih =>
    obtain ⟨hdestuff, hpending⟩ := destuff_stuffByte_append b (stuff bs)
    rw [stuff_cons, hdestuff, hpending]
    exact ⟨congrArg (b :: ·) ih.1, ih.2⟩

/-- A stuffed byte is one or two bytes long. -/
theorem stuff_length (bs : List Byte) : bs.length ≤ (stuff bs).length ∧ (stuff bs).length ≤ 2 * bs.length := by
  induction bs with
  | nil => exact ⟨le_rfl, le_rfl⟩
  | cons b bs ih =>
    have hlen : 1 ≤ (stuffByte b).length ∧ (stuffByte b).length ≤ 2 := by
      rcases stuffByte_cases b with ⟨h, -⟩ | ⟨h, -⟩ <;> simp [h]
    rw [stuff_cons, List.length_append, List.length_cons]
    omega

/-- No stuffed byte is a delimiter. -/
theorem delim_notMem_stuff (bs : List Byte) : Config.delim ∉ stuff bs := by
  have esc_ne_delim : Config.delim ≠ Config.esc := by decide
  induction bs with
  | nil => exact List.not_mem_nil
  | cons b bs ih =>
    rw [stuff_cons, List.mem_append, not_or]
    refine ⟨?_, ih⟩
    rcases stuffByte_cases b with ⟨h, hdelim, -⟩ | ⟨h, hdelim⟩
    · simpa [h] using hdelim.symm
    · simpa [h, esc_ne_delim] using hdelim.symm

end Stuff

/-- Settles O58. -/
theorem wireFrameShape : Obligations.WireFrameShape := by
  intro f
  obtain ⟨hlow, hhigh⟩ := stuff_length f.toList
  obtain ⟨hdestuff, hpending⟩ := destuff_stuff f.toList
  have hwire : (wire f).length = (stuff f.toList).length + 1 := rfl
  rw [Vector.length_toList] at hlow hhigh
  exact ⟨by omega, by omega, delim_notMem_stuff _, hdestuff, hpending⟩

end Sys2Proof.Machine
end

section
/-! Streams (`40_synchronizer.md` section 7): after a delimiter SYNC's part is a function of what the reference destuffer makes of the
bytes since (R15, R35, R48, R78). -/

namespace Sys2Proof.Machine

open Sys2Proof.Safety

section Reference

/-- One more byte, whatever it is: the destuffer yields one byte, or an escape marker is pending that was not. -/
theorem destuff_append_cases (bs : List Byte) (b : Byte) :
    (∃ c, destuff (bs ++ [b]) = destuff bs ++ [c] ∧ escapePending (bs ++ [b]) = false) ∨
      (destuff (bs ++ [b]) = destuff bs ∧ escapePending bs = false ∧ escapePending (bs ++ [b]) = true) := by
  cases hpending : escapePending bs with
  | true => exact .inl ⟨_, destuff_append_of_pending hpending b⟩
  | false =>
    by_cases hb : b = Config.esc
    · subst hb
      obtain ⟨hdestuff, hnow⟩ := destuff_append_esc hpending
      exact .inr ⟨hdestuff, rfl, hnow⟩
    · exact .inl ⟨_, destuff_append_of_ne hpending hb⟩

/-- What has been yielded stays at the front of what will be. -/
theorem exists_destuff_append (bs cs : List Byte) : ∃ ds, destuff (bs ++ cs) = destuff bs ++ ds := by
  induction cs using List.reverseRecOn with
  | nil => exact ⟨[], by simp⟩
  | append_singleton cs c ih =>
    obtain ⟨ds, hds⟩ := ih
    rw [← List.append_assoc]
    obtain ⟨e, he, -⟩ | ⟨he, -, -⟩ := destuff_append_cases (bs ++ cs) c
    · exact ⟨ds ++ [e], by rw [he, hds, List.append_assoc]⟩
    · exact ⟨ds, by rw [he, hds]⟩

/-- How far a body has come: two for every byte yielded, and one for a pending escape marker. -/
def progress (body : List Byte) : Nat := 2 * (destuff body).length + (escapePending body).toNat

/-- Every byte brings a body further. -/
theorem progress_lt_append (bs : List Byte) (b : Byte) : progress bs < progress (bs ++ [b]) := by
  unfold progress
  obtain ⟨c, hdestuff, hnow⟩ | ⟨hdestuff, hbefore, hnow⟩ := destuff_append_cases bs b
  · have hle : (escapePending bs).toNat ≤ 1 := Bool.toNat_le _
    rw [hdestuff, hnow, List.length_append, List.length_singleton, Bool.toNat_false]
    omega
  · rw [hdestuff, hbefore, hnow, Bool.toNat_false, Bool.toNat_true]
    omega

/-- A longer part of a body is further than a shorter one. -/
theorem progress_take_lt {body : List Byte} {j k : Nat} (hjk : j < k) (hk : k ≤ body.length) :
    progress (body.take j) < progress (body.take k) := by
  induction k with
  | zero => omega
  | succ k ih =>
    have hlast : body.take (k + 1) = body.take k ++ [body[k]] := (List.take_concat_get' body k hk).symm
    have hstep : progress (body.take k) < progress (body.take (k + 1)) := by
      rw [hlast]
      exact progress_lt_append _ _
    rcases Nat.lt_succ_iff_lt_or_eq.mp hjk with hlt | rfl
    · exact (ih hlt (by omega)).trans hstep
    · exact hstep

/-- Nine bytes have been yielded exactly when the progress is at least 18. -/
theorem nine_le_length_iff (body : List Byte) : 9 ≤ (destuff body).length ↔ 18 ≤ progress body := by
  have hle : (escapePending body).toNat ≤ 1 := Bool.toNat_le _
  unfold progress
  omega

/-- The ninth byte has just been yielded exactly when the progress is 18. -/
theorem progress_eq_iff (body : List Byte) :
    progress body = 18 ↔ (destuff body).length = 9 ∧ escapePending body = false := by
  unfold progress
  cases escapePending body with
  | true => simp; omega
  | false => simp; omega

/-- No part of a body that yields fewer than nine bytes has yielded nine. -/
theorem progress_take_ne_of_short {body : List Byte} (h : (destuff body).length < 9) (m : Nat) :
    progress (body.take m) ≠ 18 := by
  intro hprogress
  have hnine := (nine_le_length_iff (body.take m)).mpr hprogress.ge
  obtain ⟨ds, hds⟩ := exists_destuff_append (body.take m) (body.drop m)
  rw [List.take_append_drop] at hds
  rw [hds, List.length_append] at h
  omega

/-- A body that yields nine bytes has a part that has just yielded them. -/
theorem exists_take_of_nine_le {body : List Byte} (h : 9 ≤ (destuff body).length) :
    ∃ k ≤ body.length, destuff (body.take k) = (destuff body).take 9 ∧ escapePending (body.take k) = false := by
  induction body using List.reverseRecOn with
  | nil => exact absurd h (by decide)
  | append_singleton bs b ih =>
    by_cases hbefore : 9 ≤ (destuff bs).length
    · obtain ⟨k, hk, hdestuff, hpending⟩ := ih hbefore
      obtain ⟨ds, hds⟩ := exists_destuff_append bs [b]
      refine ⟨k, hk.trans (by simp), ?_⟩
      rw [List.take_append_of_le_length hk, hds, List.take_append_of_le_length hbefore]
      exact ⟨hdestuff, hpending⟩
    · obtain ⟨c, hdestuff, hnow⟩ | ⟨hdestuff, -, -⟩ := destuff_append_cases bs b
      · have hlen : (destuff (bs ++ [b])).length = 9 := by
          have hgrow := congrArg List.length hdestuff
          rw [List.length_append, List.length_singleton] at hgrow
          omega
        refine ⟨(bs ++ [b]).length, le_rfl, ?_⟩
        rw [List.take_length, List.take_of_length_le hlen.le]
        exact ⟨rfl, hnow⟩
      · rw [hdestuff] at h
        exact absurd h hbefore

/-- Of a body that goes on after its ninth yielded byte, one part has just yielded it, and the longer ones have yielded nine. -/
theorem exists_ninth_of_surplus {body : List Byte}
    (h : 9 < (destuff body).length ∨ (destuff body).length = 9 ∧ escapePending body = true) :
    ∃ k < body.length, destuff (body.take k) = (destuff body).take 9 ∧ escapePending (body.take k) = false ∧
      ∀ j ≤ body.length, (progress (body.take j) = 18 ↔ j = k) ∧ (k ≤ j → 9 ≤ (destuff (body.take j)).length) := by
  have hnine : 9 ≤ (destuff body).length := by rcases h with h | ⟨h, -⟩ <;> omega
  obtain ⟨k, hk, hdestuff, hnone⟩ := exists_take_of_nine_le hnine
  have hat : progress (body.take k) = 18 := by
    rw [progress_eq_iff, hdestuff, List.length_take]
    exact ⟨by omega, hnone⟩
  have hne : k ≠ body.length := by
    rintro rfl
    rw [List.take_length, progress_eq_iff] at hat
    obtain ⟨hlen, hpending⟩ := hat
    rcases h with h | ⟨-, h⟩
    · omega
    · exact Bool.false_ne_true (hpending.symm.trans h)
  refine ⟨k, Nat.lt_of_le_of_ne hk hne, hdestuff, hnone, fun j hj => ?_⟩
  rw [nine_le_length_iff]
  rcases Nat.lt_trichotomy j k with hlt | rfl | hgt
  · have hless := progress_take_lt hlt hk
    omega
  · omega
  · have hmore := progress_take_lt hgt hj
    omega

end Reference

section Overlay
variable (base : Frame)

/-- The buffer with the first nine bytes of `ds`, as far as they go, over those of `base`. -/
def overlay (base : Frame) (ds : List Byte) : Frame := Vector.ofFn fun j => ds.getD j.val base[j]

theorem getElem_overlay (ds : List Byte) {j : Nat} (hj : j < 9) : (overlay base ds)[j] = ds.getD j base[j] := by
  simp [overlay]

@[simp] theorem overlay_nil : overlay base [] = base :=
  Vector.ext fun _ hj => getElem_overlay base [] hj

/-- The next byte goes to the index that the number of bytes before it gives. -/
theorem overlay_append_singleton {ds : List Byte} (h : ds.length < 9) (b : Byte) :
    overlay base (ds ++ [b]) = (overlay base ds).set ds.length b h := by
  refine Vector.ext fun j hj => ?_
  rw [getElem_overlay, Vector.getElem_set, getElem_overlay]
  rcases Nat.lt_trichotomy j ds.length with hlt | rfl | hgt
  · rw [if_neg (by omega), List.getD_append _ _ _ _ hlt]
  · simp
  · rw [if_neg (by omega), List.getD_eq_default _ _ (by simp; omega), List.getD_eq_default _ _ hgt.le]

/-- After nine bytes nothing is written any more. -/
theorem overlay_append_of_le {ds : List Byte} (h : 9 ≤ ds.length) (es : List Byte) :
    overlay base (ds ++ es) = overlay base ds := by
  refine Vector.ext fun j hj => ?_
  rw [getElem_overlay, getElem_overlay, List.getD_append _ _ _ _ (by omega)]

/-- From the ninth byte on the rest of a body does not matter. -/
theorem overlay_destuff_take {body : List Byte} {j : Nat} (h : 9 ≤ (destuff (body.take j)).length) :
    overlay base (destuff (body.take j)) = overlay base (destuff body) := by
  obtain ⟨ds, hds⟩ := exists_destuff_append (body.take j) (body.drop j)
  rw [List.take_append_drop] at hds
  rw [hds, overlay_append_of_le base h]

/-- Nine bytes or more fill the buffer with the first nine. -/
theorem toList_overlay {ds : List Byte} (h : 9 ≤ ds.length) : (overlay base ds).toList = ds.take 9 := by
  refine List.ext_getElem (by simp [h]) fun j hj _ => ?_
  have hj : j < 9 := by simpa using hj
  have hlt : j < ds.length := by omega
  rw [Vector.getElem_toList, getElem_overlay _ _ hj, List.getElem_take, List.getD_eq_getElem _ _ hlt]

/-- A whole frame fills the buffer. -/
theorem overlay_toList (f : Frame) : overlay base f.toList = f := by
  refine Vector.toList_inj.mp ?_
  rw [toList_overlay base (by simp), List.take_of_length_le (by simp)]

end Overlay

/-- SYNC's part when `ds` has been destuffed since the delimiter, with or without an escape marker pending (R15, R19, R48): the bytes
over the old ones, their number, and after the ninth nothing but the one strobe. -/
def received (base : Frame) (ds : List Byte) (pending : Bool) : SyncPart where
  buf := overlay base ds
  st := if 9 ≤ ds.length then .idle else if pending then .escaped else .inFrame
  cnt := if h : ds.length < 9 then ⟨ds.length, h⟩ else 0
  fv := ds.length == 9 && !pending

section Received
variable {base : Frame} {ds : List Byte} {pending : Bool}

theorem received_of_lt (h : ds.length < 9) :
    received base ds pending =
      { buf := overlay base ds, st := if pending then .escaped else .inFrame, cnt := ⟨ds.length, h⟩, fv := false } := by
  have hne : (ds.length == 9) = false := beq_eq_false_iff_ne.mpr (by omega)
  rw [received, if_neg (by omega), dif_pos h, hne, Bool.false_and]

theorem received_of_le (h : 9 ≤ ds.length) :
    received base ds pending =
      { buf := overlay base ds, st := .idle, cnt := 0, fv := ds.length == 9 && !pending } := by
  rw [received, if_pos h, dif_neg (by omega)]

/-- Past the ninth byte the strobe is down. -/
theorem received_of_surplus (h : 9 ≤ ds.length) (hmore : 9 < ds.length ∨ pending = true) :
    received base ds pending = { buf := overlay base ds, st := .idle, cnt := 0, fv := false } := by
  have hfv : (ds.length == 9 && !pending) = false := by
    rcases hmore with hlt | rfl
    · rw [beq_eq_false_iff_ne.mpr (by omega), Bool.false_and]
    · simp
  rw [received_of_le h, hfv]

/-- In a frame, a byte stored is one byte more. -/
theorem received_store (h : ds.length < 9) (b : Byte) :
    (received base ds pending).store b = received base (ds ++ [b]) false := by
  have hlen : (ds ++ [b]).length = ds.length + 1 := by simp
  rw [received_of_lt h]
  by_cases hlt : ds.length < 8
  · rw [SyncPart.store_of_lt _ _ hlt, received_of_lt (by omega), overlay_append_singleton base h]
    simp
  · have heq : ds.length = 8 := by omega
    rw [SyncPart.store_of_eq _ _ heq, received_of_le (by omega), overlay_append_singleton base h]
    simp [heq]

/-- Past the ninth byte every byte but a delimiter is discarded. -/
theorem received_next_of_le (h : 9 ≤ ds.length) {b : Byte} (hb : b ≠ Config.delim) {es : List Byte} {pending' : Bool}
    (hmore : 9 < (ds ++ es).length ∨ pending' = true) :
    (received base ds pending).next (Input.byte b) = received base (ds ++ es) pending' := by
  have hle : 9 ≤ (ds ++ es).length := by rw [List.length_append]; omega
  rw [received_of_le h, SyncPart.next_of_idle _ hb rfl, received_of_surplus hle hmore, overlay_append_of_le base h]

/-- A byte but the delimiter moves SYNC's part as it moves the reference destuffer. -/
theorem received_next {b : Byte} (hb : b ≠ Config.delim) (bs : List Byte) :
    (received base (destuff bs) (escapePending bs)).next (Input.byte b) =
      received base (destuff (bs ++ [b])) (escapePending (bs ++ [b])) := by
  by_cases hlen : 9 ≤ (destuff bs).length
  · obtain ⟨c, hdestuff, hnow⟩ | ⟨hdestuff, -, hnow⟩ := destuff_append_cases bs b
    · rw [hdestuff, hnow]
      exact received_next_of_le hlen hb (.inl (by simp; omega))
    · rw [hdestuff, hnow]
      simpa using received_next_of_le (es := []) hlen hb (.inr rfl)
  have hlt : (destuff bs).length < 9 := Nat.lt_of_not_le hlen
  cases hpending : escapePending bs with
  | true =>
    obtain ⟨hdestuff, hnow⟩ := destuff_append_of_pending hpending b
    have hst : (received base (destuff bs) true).st = .escaped := by rw [received_of_lt hlt]; rfl
    rw [SyncPart.next_of_data _ hb (.inr hst), frameByte, if_pos hst, received_store hlt, hdestuff, hnow]
  | false =>
    have hst : (received base (destuff bs) false).st = .inFrame := by rw [received_of_lt hlt]; rfl
    by_cases hesc : b = Config.esc
    · subst hesc
      obtain ⟨hdestuff, hnow⟩ := destuff_append_esc hpending
      rw [SyncPart.next_of_esc _ hst, hdestuff, hnow, received_of_lt hlt, received_of_lt hlt]
      rfl
    · obtain ⟨hdestuff, hnow⟩ := destuff_append_of_ne hpending hesc
      rw [SyncPart.next_of_data _ hb (.inl ⟨hst, hesc⟩), frameByte, if_neg (by simp [hst]), received_store hlt, hdestuff,
        hnow]

/-- A delimiter starts with no byte received. -/
theorem next_delim_eq_received (x : SyncPart) : x.next (Input.byte Config.delim) = received x.buf [] false := by
  rw [x.next_delim, received_of_lt (by decide), overlay_nil]
  rfl

/-- An empty cycle changes nothing before the ninth byte. -/
theorem received_next_none (h : ds.length < 9) :
    (received base ds pending).next Input.none = received base ds pending := by
  rw [received_of_lt h, SyncPart.next_none]

/-- A body with no delimiter in it moves SYNC's part as it moves the reference destuffer. -/
theorem foldl_body (base : Frame) {body : List Byte} (h : Config.delim ∉ body) :
    (stream body).foldl SyncPart.next (received base [] false) =
      received base (destuff body) (escapePending body) := by
  induction body using List.reverseRecOn with
  | nil => rfl
  | append_singleton bs b ih =>
    obtain ⟨hbs, hb⟩ : Config.delim ∉ bs ∧ Config.delim ∉ [b] := not_or.mp (List.mem_append.not.mp h)
    rw [stream, List.map_append, List.foldl_append, ← stream, ih hbs]
    exact received_next (fun heq => hb (heq ▸ List.mem_singleton_self b)) bs

end Received

section RunBody
variable {s : State} {body : List Byte} {rest : List Input}

/-- The run over a delimiter and a body. -/
theorem exists_run_body (hin : s.inputs = stream (Config.delim :: body) ++ rest) (h : Config.delim ∉ body) :
    ∃ t, run (body.length + 1) s = .next t ∧ t.sync = received s.buf (destuff body) (escapePending body) ∧
      t.params = s.params ∧ t.inputs = rest := by
  obtain ⟨t, hrun, hsync, hparams, hrest⟩ := exists_run_inputs hin
  have hlen : (stream (Config.delim :: body)).length = body.length + 1 := by simp [stream]
  refine ⟨t, hlen ▸ hrun, ?_, hparams, hrest⟩
  calc t.sync
    _ = (stream body).foldl SyncPart.next (s.sync.next (Input.byte Config.delim)) := hsync
    _ = received s.buf (destuff body) (escapePending body) := by rw [next_delim_eq_received, sync_buf, foldl_body _ h]

/-- The run over a delimiter and the first `j` bytes of a body. -/
theorem exists_run_take (hin : s.inputs = stream (Config.delim :: body) ++ rest) (h : Config.delim ∉ body) {j : Nat}
    (hj : j ≤ body.length) :
    ∃ u, run (j + 1) s = .next u ∧
      u.sync = received s.buf (destuff (body.take j)) (escapePending (body.take j)) ∧
      u.params = s.params ∧ u.inputs = stream (body.drop j) ++ rest := by
  have hsplit : s.inputs = stream (Config.delim :: body.take j) ++ (stream (body.drop j) ++ rest) := by
    rw [hin, ← List.append_assoc, stream, stream, stream, ← List.map_append, List.cons_append, List.take_append_drop]
  have hlen : (body.take j).length = j := by rw [List.length_take]; omega
  obtain ⟨u, hrun, hu⟩ := exists_run_body hsplit fun hmem => h (List.mem_of_mem_take hmem)
  rw [hlen] at hrun
  exact ⟨u, hrun, hu⟩

/-- Along it the strobe is up where the ninth byte has just been stored. -/
theorem run_take_fv_iff (hin : s.inputs = stream (Config.delim :: body) ++ rest) (h : Config.delim ∉ body) {j : Nat}
    (hj : j ≤ body.length) {u : State} (hrun : run (j + 1) s = .next u) :
    u.fv = true ↔ progress (body.take j) = 18 := by
  obtain ⟨u', hrun', hsync, -⟩ := exists_run_take hin h hj
  obtain rfl : u = u' := Host.Outcome.next.inj (hrun.symm.trans hrun')
  have hfv : u.fv = ((destuff (body.take j)).length == 9 && !escapePending (body.take j)) := congrArg SyncPart.fv hsync
  rw [hfv, progress_eq_iff, Bool.and_eq_true, beq_iff_eq, Bool.not_eq_true']

/-- No cycle of a byte stream is a reset. -/
theorem rst_of_mem_stream {bs : List Byte} {i : Input} (h : i ∈ stream bs) : i.rst = false := by
  obtain ⟨b, -, rfl⟩ := List.mem_map.mp h
  rfl

/-- The inputs taken while `bs` is pending hold no reset. -/
theorem rst_of_mem_take_stream {bs : List Byte} {n : Nat} (hn : n ≤ bs.length) {i : Input}
    (h : i ∈ (stream bs ++ rest).take n) : i.rst = false := by
  rw [List.take_append_of_le_length (by simpa [stream] using hn)] at h
  exact rst_of_mem_stream (List.mem_of_mem_take h)

/-- From the end of the first `j` bytes of a body to a later one, where none in between is the ninth one yielded, the Telemetry State
is kept. -/
theorem run_drop_keeps_tlm (hin : s.inputs = stream (Config.delim :: body) ++ rest) (h : Config.delim ∉ body) {j n : Nat}
    (hn : j + n ≤ body.length) (hnot : ∀ m, j < m → m ≤ j + n → progress (body.take m) ≠ 18) {u t : State}
    (hu : run (j + 1) s = .next u) (ht : run n u = .next t) : t.tlm = u.tlm := by
  obtain ⟨u', hu', -, -, hinputs⟩ := exists_run_take hin h (show j ≤ body.length by omega)
  obtain rfl : u = u' := Host.Outcome.next.inj (hu.symm.trans hu')
  refine run_keeps_tlm_of_no_strobe (fun i hi => ?_) ht fun m v hm hmn hv => ?_
  · rw [hinputs] at hi
    exact rst_of_mem_take_stream (by rw [List.length_drop]; omega) hi
  · have hv' : run (j + m + 1) s = .next v := by rw [Nat.add_right_comm, run_add hu, hv]
    rw [← Bool.not_eq_true, run_take_fv_iff hin h (by omega) hv']
    exact hnot _ (by omega) (by omega)

/-- So it is from the start, as the delimiter raises no strobe. -/
theorem run_take_keeps_tlm (hin : s.inputs = stream (Config.delim :: body) ++ rest) (h : Config.delim ∉ body) {n : Nat}
    (hn : n ≤ body.length) (hnot : ∀ m ≤ n, progress (body.take m) ≠ 18) {t : State} (ht : run (n + 1) s = .next t) :
    t.tlm = s.tlm := by
  refine run_keeps_tlm_of_no_strobe (fun i hi => ?_) ht fun k v hk hkn hv => ?_
  · rw [hin] at hi
    exact rst_of_mem_take_stream (by simpa using hn) hi
  · obtain ⟨m, rfl⟩ : ∃ m, k = m + 1 := ⟨k - 1, by omega⟩
    rw [← Bool.not_eq_true, run_take_fv_iff hin h (by omega) hv]
    exact hnot m (by omega)

end RunBody

/-- Settles O54, by the progress of the body: short of a frame, at the ninth byte, or past it. -/
theorem synchronizerRefinesDestuff : Obligations.SynchronizerRefinesDestuff := by
  intro s body rest hin hbody
  obtain ⟨t, hrun, hsync, hparams, hrest⟩ := exists_run_body hin hbody
  have hbuf : t.buf = overlay s.buf (destuff body) := congrArg SyncPart.buf hsync
  refine ⟨fun hlt => ?short, fun hlen hpending => ?ninth, fun hmore => ?past⟩
  case short =>
    rw [received_of_lt hlt] at hsync
    have htlm : t.tlm = s.tlm :=
      run_take_keeps_tlm hin hbody le_rfl (fun m _ => progress_take_ne_of_short hlt m) hrun
    refine ⟨t, hrun, congrArg (·.cnt.val) hsync, congrArg SyncPart.st hsync, congrArg SyncPart.fv hsync, fun j hj => ?_,
      fun j hj => ?_, htlm, hparams, hrest⟩
    · rw [hbuf]
      exact (getElem_overlay _ _ j.isLt).trans (List.getD_eq_getElem _ _ hj)
    · rw [hbuf]
      exact (getElem_overlay _ _ j.isLt).trans (List.getD_eq_default _ _ hj)
  case ninth =>
    rw [received_of_le hlen.ge, hlen, hpending] at hsync
    refine ⟨t, hrun, congrArg SyncPart.st hsync, congrArg SyncPart.cnt hsync, congrArg SyncPart.fv hsync, ?_, hparams, hrest⟩
    rw [hbuf, toList_overlay _ hlen.ge, List.take_of_length_le hlen.le]
  case past =>
    have hnine : 9 ≤ (destuff body).length := by rcases hmore with h | ⟨h, -⟩ <;> omega
    rw [received_of_surplus hnine (hmore.imp_right And.right)] at hsync
    obtain ⟨k, hk, hdestuff, hnone, hninth⟩ := exists_ninth_of_surplus hmore
    refine ⟨k, hk, hdestuff, hnone, t, hrun, congrArg SyncPart.st hsync, congrArg SyncPart.cnt hsync,
      congrArg SyncPart.fv hsync, by rw [hbuf, toList_overlay _ hnine], hparams, hrest, fun j hj => ?_⟩
    obtain ⟨u, hrunu, hsyncu, -⟩ := exists_run_take hin hbody hj
    obtain ⟨hprogress, hfull⟩ := hninth j hj
    refine ⟨u, hrunu, (run_take_fv_iff hin hbody hj hrunu).trans hprogress, fun hkj => ?_⟩
    rw [received_of_le (hfull hkj), overlay_destuff_take _ (hfull hkj)] at hsyncu
    have hrunt : run (body.length - j) u = .next t := by
      rw [← run_add hrunu, ← hrun]
      congr 1
      omega
    have htlm : t.tlm = u.tlm := by
      refine run_drop_keeps_tlm hin hbody (by omega) (fun m hjm hm => ?_) hrunu hrunt
      rw [ne_eq, (hninth m (by omega)).1]
      omega
    exact ⟨congrArg SyncPart.st hsyncu, congrArg SyncPart.cnt hsyncu, (congrArg SyncPart.buf hsyncu).trans hbuf.symm,
      htlm.symm⟩

section GapsAndPlainBytes

/-- The bytes of a stream with gaps move SYNC's part as the reference destuffer, as long as the ninth one is not yielded. -/
theorem foldl_cycles (base : Frame) {cycles : List Input} (hrst : ∀ i ∈ cycles, i.rst = false)
    (hbytes : Config.delim ∉ cycles.filterMap (·.rx)) (hlen : (destuff (cycles.filterMap (·.rx))).length < 9) :
    cycles.foldl SyncPart.next (received base [] false) =
      received base (destuff (cycles.filterMap (·.rx))) (escapePending (cycles.filterMap (·.rx))) := by
  induction cycles using List.reverseRecOn with
  | nil => rfl
  | append_singleton cycles i ih =>
    have hi : i.rst = false := hrst i (by simp)
    have hcycles : ∀ j ∈ cycles, j.rst = false := fun j hj => hrst j (List.mem_append_left _ hj)
    rw [List.foldl_append, List.foldl_cons, List.foldl_nil]
    obtain ⟨rst, rx⟩ := i
    cases hi
    rw [List.filterMap_append] at hbytes hlen ⊢
    cases rx with
    | none =>
      have hnone : [(⟨false, none⟩ : Input)].filterMap (·.rx) = [] := rfl
      rw [hnone, List.append_nil] at hbytes hlen ⊢
      rw [ih hcycles hbytes hlen]
      exact received_next_none hlen
    | some b =>
      have hsome : [(⟨false, some b⟩ : Input)].filterMap (·.rx) = [b] := rfl
      rw [hsome] at hbytes hlen ⊢
      obtain ⟨ds, hds⟩ := exists_destuff_append (cycles.filterMap (·.rx)) [b]
      have hshort : (destuff (cycles.filterMap (·.rx))).length < 9 := by
        rw [hds, List.length_append] at hlen
        omega
      obtain ⟨hfirst, hb⟩ := not_or.mp (List.mem_append.not.mp hbytes)
      rw [ih hcycles hfirst hshort]
      exact received_next (fun heq => hb (heq ▸ List.mem_singleton_self b)) _

/-- Of plain bytes fewer than nine are all received, with any gaps between them, and there is no strobe. -/
theorem foldl_plain_cycles (base : Frame) {cycles : List Input} (hrst : ∀ i ∈ cycles, i.rst = false)
    (hplain : ∀ b ∈ cycles.filterMap (·.rx), b ≠ Config.delim ∧ b ≠ Config.esc)
    (hlen : (cycles.filterMap (·.rx)).length < 9) :
    cycles.foldl SyncPart.next (received base [] false) = received base (cycles.filterMap (·.rx)) false := by
  obtain ⟨hdestuff, hpending⟩ := destuff_of_plain fun b hb => (hplain b hb).2
  have hdelim : Config.delim ∉ cycles.filterMap (·.rx) := fun hmem => (hplain _ hmem).1 rfl
  rw [foldl_cycles base hrst hdelim (by rw [hdestuff]; exact hlen), hdestuff, hpending]

/-- The bytes of a frame, one by one. -/
theorem forall_mem_frame {P : Byte → Prop} {f : Frame} (h : ∀ j : Fin 9, P f[j]) {b : Byte} (hb : b ∈ f.toList) : P b := by
  obtain ⟨j, hj, rfl⟩ := List.getElem_of_mem hb
  have hj' : j < 9 := by simpa using hj
  exact h ⟨j, hj'⟩

end GapsAndPlainBytes

/-- Settles O56: eight plain bytes are received one by one, and the ninth completes the frame. -/
theorem ninePlainBytesMakeAFrame : Obligations.NinePlainBytesMakeAFrame := by
  intro s f cycles rest last hin hrst hbytes hf
  have hlen : (cycles.filterMap (·.rx)).length = 8 := by
    have hcount := congrArg List.length hbytes
    simp at hcount
    omega
  have hplain : ∀ b ∈ cycles.filterMap (·.rx) ++ [last], b ≠ Config.delim ∧ b ≠ Config.esc :=
    fun b hb => forall_mem_frame (P := fun b => b ≠ Config.delim ∧ b ≠ Config.esc) hf (hbytes ▸ hb)
  have hopen : s.sync.next (Input.byte 0x7E) = received s.buf [] false := next_delim_eq_received s.sync
  refine ⟨?complete, fun k hk => ?before⟩
  case complete =>
    have hsplit : s.inputs = (Input.byte 0x7E :: (cycles ++ [Input.byte last])) ++ rest := by rw [hin]; simp
    obtain ⟨t, hrun, hsync, -, hrest⟩ := exists_run_inputs hsplit
    have hlast : last ≠ Config.delim ∧ last ≠ Config.esc := hplain last (by simp)
    have hcycles := foldl_plain_cycles s.buf hrst (fun b hb => hplain b (List.mem_append_left _ hb)) (by omega)
    have hst : (received s.buf (cycles.filterMap (·.rx)) false).st = .inFrame := by
      rw [received_of_lt (by omega)]
      rfl
    rw [List.foldl_cons, hopen, List.foldl_append, hcycles, List.foldl_cons, List.foldl_nil,
      SyncPart.next_of_data _ hlast.1 (.inl ⟨hst, hlast.2⟩), frameByte, if_neg (by simp [hst]), received_store (by omega),
      hbytes, received_of_le (by simp), overlay_toList] at hsync
    exact ⟨t, by simpa using hrun, (congrArg SyncPart.fv hsync).trans (by simp), congrArg SyncPart.st hsync,
      congrArg SyncPart.cnt hsync, congrArg SyncPart.buf hsync, hrest⟩
  case before =>
    have hsplit : s.inputs =
        (Input.byte 0x7E :: cycles.take k) ++ (cycles.drop k ++ Input.byte last :: rest) := by
      rw [hin, List.cons_append, ← List.append_assoc, List.take_append_drop]
    obtain ⟨t, hrun, hsync, -⟩ := exists_run_inputs hsplit
    have htake : cycles.filterMap (·.rx) =
        (cycles.take k).filterMap (·.rx) ++ (cycles.drop k).filterMap (·.rx) := by
      rw [← List.filterMap_append, List.take_append_drop]
    have hshort : ((cycles.take k).filterMap (·.rx)).length < 9 := by
      rw [htake, List.length_append] at hlen
      omega
    have hcycles := foldl_plain_cycles s.buf (fun i hi => hrst i (List.mem_of_mem_take hi))
      (fun b hb => hplain b (by rw [htake]; simp [hb])) hshort
    rw [List.foldl_cons, hopen, hcycles, received_of_lt hshort] at hsync
    have hcount : (Input.byte 0x7E :: cycles.take k).length = k + 1 := by simp [hk]
    exact ⟨t, hcount ▸ hrun, congrArg SyncPart.fv hsync⟩

/-- A run's last cycle, taken off. -/
theorem run_succ_eq_next_last {k : Nat} {s t : State} (h : run (k + 1) s = .next t) :
    ∃ u, run k s = .next u ∧ step u = .next t := by
  obtain ⟨u, hu⟩ := run_next k s
  rw [run_add hu] at h
  obtain ⟨t', hstep, ht⟩ := run_succ_eq_next h
  obtain rfl : t' = t := Host.Outcome.next.inj ht
  exact ⟨u, hu, hstep⟩

/-- A stuffed frame has just yielded its ninth byte. -/
theorem progress_stuff (f : Frame) : progress (stuff f.toList) = 18 := by
  obtain ⟨hdestuff, hpending⟩ := destuff_stuff f.toList
  exact (progress_eq_iff _).mpr ⟨by simp [hdestuff], hpending⟩

/-- No shorter part of it has. -/
theorem progress_take_stuff_ne (f : Frame) {j : Nat} (hj : j < (stuff f.toList).length) :
    progress ((stuff f.toList).take j) ≠ 18 := by
  have hless := progress_take_lt hj le_rfl
  rw [List.take_length, progress_stuff] at hless
  omega

/-- A step that raises the strobe is no reset. -/
theorem StepFacts.rst_of_strobe {s t : State} (h : StepFacts s t) (hfv : t.fv = true) : (currentInput s).rst = false := by
  by_contra hrst
  have hdown : t.fv = false := by rw [h.fv, SyncPart.next_of_rst _ (by simpa using hrst)]
  exact Bool.false_ne_true (hdown.symm.trans hfv)

/-- Settles O57: the stuffed body is destuffed to the frame with its last byte, and the frame's row runs in that last step on the
Telemetry State of the start. -/
theorem wireDeliversEveryFrame : Obligations.WireDeliversEveryFrame := by
  intro s f rest hin
  obtain ⟨hdestuff, hpending⟩ := destuff_stuff f.toList
  have hbody := delim_notMem_stuff f.toList
  have hlen : (wire f).length = (stuff f.toList).length + 1 := rfl
  refine ⟨?delivered, fun k hk hklt => ?before⟩
  case delivered =>
    obtain ⟨t, hrun, hsync, hparams, hrest⟩ := exists_run_body hin hbody
    rw [hdestuff, hpending, received_of_le (by simp), overlay_toList] at hsync
    have hfv : t.fv = true := (congrArg SyncPart.fv hsync).trans (by simp)
    have hbuf : t.buf = f := congrArg SyncPart.buf hsync
    have hout : t.out = outputsOf true f := by rw [run_succ_outputs hrun, hfv, hbuf]
    obtain ⟨u, hrunu, hstep⟩ := run_succ_eq_next_last hrun
    have hfacts := stepFacts hstep
    have hrst := hfacts.rst_of_strobe hfv
    have hnonempty : (stuff f.toList).length ≠ 0 := by
      obtain ⟨hlow, -⟩ := stuff_length f.toList
      rw [Vector.length_toList] at hlow
      omega
    obtain ⟨n, hn⟩ := Nat.exists_eq_succ_of_ne_zero hnonempty
    rw [hn] at hrunu
    have htlm : u.tlm = s.tlm := run_take_keeps_tlm hin hbody (by omega) (fun m hm => progress_take_stuff_ne f (by omega)) hrunu
    have hparamsu : u.params = s.params := hfacts.params.symm.trans hparams
    refine ⟨t, by rw [hlen, hrun], hfv, congrArg SyncPart.st hsync, congrArg SyncPart.cnt hsync, hbuf, hparams, hrest,
      fun hok => ?good, fun hbad => ?bad⟩
    case good =>
      have hrow := hfacts.tlm_row hrst hfv (hbuf ▸ hok)
      rw [hbuf, hparamsu] at hrow
      obtain ⟨haccepted, hnoErr⟩ := verdict_of_good hok
      exact ⟨hout ▸ haccepted, hout ▸ hnoErr, _, exec_decodeFrame_congr htlm.symm hparamsu.symm hrow, rfl⟩
    case bad =>
      have hkept := hfacts.tlm_kept hrst fun ⟨_, hok⟩ => Bool.false_ne_true (hbad.symm.trans (hbuf ▸ hok))
      obtain ⟨herr, hnot⟩ := verdict_of_bad hbad
      exact ⟨hout ▸ herr, hout ▸ hnot, hkept.trans htlm⟩
  case before =>
    obtain ⟨j, rfl⟩ : ∃ j, k = j + 1 := ⟨k - 1, by omega⟩
    obtain ⟨t, hrun, -⟩ := exists_run_take hin hbody (show j ≤ (stuff f.toList).length by omega)
    refine ⟨t, hrun, ?_⟩
    rw [← Bool.not_eq_true, run_take_fv_iff hin hbody (by omega) hrun]
    exact progress_take_stuff_ne f (by omega)

end Sys2Proof.Machine
end
